-- ==== Sys2Proof/Word.lean ====
section
/-!
DEFINITION. The words of the block and the names the spec gives its small sets: the two demodulator states, the five
symbols, the seven commands (10_state.md R10, 30_encoding.md R46 and R55).
-/

namespace Sys2Proof

/-- A RawFrame, sixteen bits, bit 15 received first (00_scope.md R2, 20_memory.md R32). -/
abbrev Raw := BitVec 16

/-- The value of `POS`, the index of the frame bit the next bit symbol fills (10_state.md R11). -/
abbrev Pos := BitVec 4

/-- The value of `DT`, whole microseconds since the last detected edge, `DT_W = 11` bits (10_state.md R14). -/
abbrev Micros := BitVec 11

/-- One of the four nibbles of the checksum view (30_encoding.md R48). -/
abbrev Nibble := BitVec 4

/-- The value of `STATE` (10_state.md R10). Its numeric encoding is visible at no port. -/
inductive DemodState where
  | idle
  | sampling
deriving DecidableEq, Repr, Inhabited

/-- The five symbols an inter-edge time is classified into (30_encoding.md R46). -/
inductive Symbol where
  | short
  | low
  | high
  | ss
  | long
deriving DecidableEq, Repr

/-- The command set of the decoder, in the document's order of listing (41_frame_decoder.md R114). -/
inductive Command where
  | stop
  | forward
  | backward
  | increase
  | decrease
  | reset
  | notApplicable
deriving DecidableEq, Repr, Inhabited

/-- The 3-bit value of a command on the ports `red_command` and `blue_command` (41_frame_decoder.md R114). -/
def Command.code : Command → BitVec 3
  | .stop => 0
  | .forward => 1
  | .backward => 2
  | .increase => 3
  | .decrease => 4
  | .reset => 5
  | .notApplicable => 6

/-- The three commands a standard_rc sub-channel can yield, the range of `STD_CODE3_CMD`
(41_frame_decoder.md R112, 93_implementation_defined.md U1). -/
inductive StdCommand where
  | stop
  | forward
  | backward
deriving DecidableEq, Repr, Inhabited

/-- A standard_rc command as a member of the whole command set. -/
def StdCommand.toCommand : StdCommand → Command
  | .stop => .stop
  | .forward => .forward
  | .backward => .backward

end Sys2Proof
end

