-- ==== Sys2Proof/Config.lean ====
section
/-!
DEFINITION. The elaboration-time parameters of 00_scope.md section 4: those with a value of the spec as constants, the open
ones as the fields of `Build`. Nothing changes a parameter while the block runs (10_state.md R19, 20_memory.md R41).
-/

namespace Sys2Proof

/-- The four timing constants, in microseconds (00_scope.md R1). -/
structure Timing where
  lowMin : Nat
  highMin : Nat
  startStopMin : Nat
  startStopMax : Nat
deriving DecidableEq, Repr

/-- The values of the four timing constants (00_scope.md R1). -/
def Config.timing : Timing :=
  { lowMin := 316, highMin := 526, startStopMin := 947, startStopMax := 1560 }

/-- `DT_SAT`, the value at which the microsecond counter saturates (10_state.md R14). -/
def Config.dtSat : Micros := 2047

/-- `STD_RED_LSB`: the red sub-field of `data` in standard_rc is `data[1:0]` (30_encoding.md R50).
PRESUMED by the spec from general knowledge (log entry 9), unsafe. -/
def Config.stdRedLsb : Nat := 0

/-- `STD_BLUE_LSB`: the blue sub-field of `data` in standard_rc is `data[3:2]` (30_encoding.md R50).
PRESUMED by the spec from general knowledge (log entry 9), unsafe. -/
def Config.stdBlueLsb : Nat := 2

/-- `STD_CODE_STOP` (30_encoding.md R50). PRESUMED by the spec from general knowledge (log entry 9), unsafe. -/
def Config.stdCodeStop : BitVec 2 := 0b00#2

/-- `STD_CODE_FWD` (30_encoding.md R50). PRESUMED by the spec from general knowledge (log entry 9), unsafe. -/
def Config.stdCodeFwd : BitVec 2 := 0b01#2

/-- `STD_CODE_BWD` (30_encoding.md R50). PRESUMED by the spec from general knowledge (log entry 9), unsafe. -/
def Config.stdCodeBwd : BitVec 2 := 0b10#2

/-- The fourth 2-bit code, "backward+forward-undefined" (30_encoding.md R50). Its command is `Build.stdCode3`. -/
def Config.stdCode3 : BitVec 2 := 0b11#2

/-- `PWM_DATA_INC` (30_encoding.md R51). PRESUMED by the spec from general knowledge (log entry 10), unsafe. -/
def Config.pwmDataInc : Nibble := 0x4

/-- `PWM_DATA_DEC` (30_encoding.md R51). PRESUMED by the spec from general knowledge (log entry 10), unsafe. -/
def Config.pwmDataDec : Nibble := 0x5

/-- `PWM_DATA_RESET` (30_encoding.md R51). PRESUMED by the spec from general knowledge (log entry 10), unsafe. -/
def Config.pwmDataReset : Nibble := 0x8

/-- `PWM_EXCLUDED_MODE`, the mode with bit 2 set that is not pwm_rc (41_frame_decoder.md R108). -/
def Config.pwmExcludedMode : BitVec 3 := 6

/-- The open parameters of one instance of the block. They stand in State as a field that no step writes, so that a statement
about every state is a statement about every value of them (92_eei_decisions.md D2, D14, D15). -/
structure Build where
  /-- `CLK_PER_US`, clock cycles per microsecond, a positive integer. -/
  clkPerUs : Nat
  /-- `STD_CODE3_CMD`, the command of the standard_rc code 0b11. -/
  stdCode3 : StdCommand
  /-- `PWM_OTHER_CMD`, the command of the pwm_rc data values the spec does not name. -/
  pwmOther : Command
deriving DecidableEq, Repr

/-- The command of the standard_rc code 0b11 in the instance `State.reset` stands for: a free value, nothing is known of it
(93_implementation_defined.md U1; log entry 5). -/
opaque Config.stdCode3Cmd : StdCommand

/-- The command of the unnamed pwm_rc data values in the instance `State.reset` stands for: a free value, nothing is known of it
(93_implementation_defined.md U5; log entry 6). -/
opaque Config.pwmOtherCmd : Command

/-- The instance `State.reset` stands for. DESIGN CHOICE: `CLK_PER_US` is the spec's default 1 (92_eei_decisions.md D2;
log entry 4), unsafe; the two open commands are free values. -/
def Config.build : Build :=
  { clkPerUs := 1, stdCode3 := Config.stdCode3Cmd, pwmOther := Config.pwmOtherCmd }

/-- A build the spec admits: `CLK_PER_US` is positive (92_eei_decisions.md D2). -/
abbrev Build.valid (b : Build) : Prop := 0 < b.clkPerUs

/-- The width of `PRESC` in bits, `max(1, ceil(log2(CLK_PER_US)))` (10_state.md R15). -/
def Build.prescWidth (b : Build) : Nat :=
  if b.clkPerUs ≤ 2 then 1 else (b.clkPerUs - 1).log2 + 1

/-- The demodulator's registers (10_state.md R10 to R17), as one value. -/
structure Registers where
  state : DemodState
  pos : Pos
  raw : Raw
  dt : Micros
  presc : Nat
  sync0 : Bool
  sync1 : Bool
  sync2 : Bool
  frameValid : Bool
deriving DecidableEq, Repr, Inhabited

/-- What the registers hold after an edge before the first reset, for each draw a fresh value: unspecified by the spec
(70_reset_and_hazards.md R180, 93_implementation_defined.md U11), a free value, nothing is known of it (log entry 8). -/
opaque Config.unspecifiedRegisters : Nat → Registers

/-- `value()` of the environment's channel state, from `alternative_mode`, `steps` and `actual_step`: left open by the spec
(42_downstream_reference.md R144, 92_eei_decisions.md D27), a free value (log entry 25). -/
opaque Config.channelValue : Bool → Nat → Int → Int

end Sys2Proof
end

