-- ==== Sys2Proof/Syntax.lean ====
section
/-!
DEFINITION. The instructions: one constructor for each of the 46 rows of spec/opcode_table.json, with the operands the
row's encoding string leaves free. Letters of the encoding strings: t toggle, e escape, c channel, a address, m mode,
d data, k checksum (30_encoding.md R47).
-/

namespace Sys2Proof

/-- The protocol view of a frame (30_encoding.md R47). -/
structure Frame where
  toggle : BitVec 1
  escape : BitVec 1
  channel : BitVec 2
  address : BitVec 1
  mode : BitVec 3
  data : BitVec 4
  checksum : BitVec 4
deriving DecidableEq, Repr

/-- The fields that every class and command row leaves free: t, cc, a and kkkk. -/
structure Header where
  toggle : BitVec 1
  channel : BitVec 2
  address : BitVec 1
  checksum : BitVec 4
deriving DecidableEq, Repr

/-- The instructions. A symbol row carries its inter-edge time `dt` in microseconds. -/
inductive Instr where
  -- format SYM: the eight (state, symbol) cases (40_demodulator.md R77 to R82)
  | short (dt : Nat)
  | long (dt : Nat)
  | lowIdle (dt : Nat)
  | highIdle (dt : Nat)
  | ssIdle (dt : Nat)
  | ssSampling (dt : Nat)
  | highSampling (dt : Nat)
  | lowSampling (dt : Nat)
  -- format FRAME: the nine classes (41_frame_decoder.md R105 to R109)
  | extendedMode (h : Header) (data : BitVec 4)
  | standardRc (h : Header) (data : BitVec 4)
  | noclassM2 (h : Header) (data : BitVec 4)
  | noclassM3 (h : Header) (data : BitVec 4)
  | noclassM6 (h : Header) (data : BitVec 4)
  | pwmRcM4 (h : Header) (data : BitVec 4)
  | pwmRcM5 (h : Header) (data : BitVec 4)
  | pwmRcM7 (h : Header) (data : BitVec 4)
  | comboPwmMode (h : Header) (mode : BitVec 3) (data : BitVec 4)
  -- format FRAME: the commands of standard_rc; the operand is the other sub-channel's two bits (R112, R113)
  | stdRedStop (h : Header) (blue : BitVec 2)
  | stdRedFwd (h : Header) (blue : BitVec 2)
  | stdRedBwd (h : Header) (blue : BitVec 2)
  | stdRedCode3 (h : Header) (blue : BitVec 2)
  | stdBlueStop (h : Header) (red : BitVec 2)
  | stdBlueFwd (h : Header) (red : BitVec 2)
  | stdBlueBwd (h : Header) (red : BitVec 2)
  | stdBlueCode3 (h : Header) (red : BitVec 2)
  -- format FRAME: the commands of pwm_rc (R112, R113)
  | pwmRedIncM4 (h : Header)
  | pwmRedDecM4 (h : Header)
  | pwmRedResetM4 (h : Header)
  | pwmRedOtherM4 (h : Header) (data : BitVec 4)
  | pwmBlueIncM5 (h : Header)
  | pwmBlueDecM5 (h : Header)
  | pwmBlueResetM5 (h : Header)
  | pwmBlueOtherM5 (h : Header) (data : BitVec 4)
  | pwmBlueIncM7 (h : Header)
  | pwmBlueDecM7 (h : Header)
  | pwmBlueResetM7 (h : Header)
  | pwmBlueOtherM7 (h : Header) (data : BitVec 4)
  -- format FRAME: the nine functions, computed for every frame (R101 to R117)
  | fields (f : Frame)
  | checksumOk (f : Frame)
  | channel (f : Frame)
  | singleOutputPort (f : Frame)
  | redCommand (f : Frame)
  | blueCommand (f : Frame)
  | stateSignature (f : Frame)
  | redEffected (f : Frame)
  | blueEffected (f : Frame)
deriving DecidableEq, Repr

end Sys2Proof
end

