-- ==== Sys2Proof/Decode.lean ====
section
/-!
DEFINITION. The decoder, total on every word of either format, and the encoder written from the same encoding tables
(30_encoding.md R45 to R51, spec/opcode_table.json).
-/

namespace Sys2Proof

/-- A word of one of the two formats: the number `dt`, or sixteen bits (30_encoding.md R45). -/
inductive CodeWord where
  | sym (dt : Nat)
  | frame (f : Raw)
deriving DecidableEq, Repr

/-- The symbol of an inter-edge time: the five windows of 30_encoding.md R46, half-open as 90_conflicts.md C1 resolves. -/
def classify (dt : Nat) : Symbol :=
  if dt ≤ Config.timing.lowMin then .short
  else if dt < Config.timing.highMin then .low
  else if dt < Config.timing.startStopMin then .high
  else if dt < Config.timing.startStopMax then .ss
  else .long

/-- The pwm_rc data values that have a row of their own (30_encoding.md R51). -/
def pwmNamed (data : BitVec 4) : Bool :=
  data == Config.pwmDataInc || data == Config.pwmDataDec || data == Config.pwmDataReset

/-- The row of a detected edge: the window test first, then the case of `STATE` (40_demodulator.md R72, R84). -/
def decodeSym (st : DemodState) (dt : Nat) : Instr :=
  match classify dt, st with
  | .short, _ => .short dt
  | .long, _ => .long dt
  | .low, .idle => .lowIdle dt
  | .high, .idle => .highIdle dt
  | .ss, .idle => .ssIdle dt
  | .ss, .sampling => .ssSampling dt
  | .high, .sampling => .highSampling dt
  | .low, .sampling => .lowSampling dt

/-- The protocol view of a frame (30_encoding.md R47). -/
def Frame.ofBits (f : Raw) : Frame :=
  { toggle := f.extractLsb' 15 1
    escape := f.extractLsb' 14 1
    channel := f.extractLsb' 12 2
    address := f.extractLsb' 11 1
    mode := f.extractLsb' 8 3
    data := f.extractLsb' 4 4
    checksum := f.extractLsb' 0 4 }

/-- The sixteen bits of a frame, fields most significant first as listed (30_encoding.md R47). -/
def Frame.toBits (f : Frame) : Raw :=
  f.toggle ++ f.escape ++ f.channel ++ f.address ++ f.mode ++ f.data ++ f.checksum

/-- The fields that a class or command row leaves free. -/
def Frame.header (f : Frame) : Header :=
  { toggle := f.toggle, channel := f.channel, address := f.address, checksum := f.checksum }

/-- The frame with these free fields and this `escape`, `mode` and `data`. -/
def Header.frame (h : Header) (escape : BitVec 1) (mode : BitVec 3) (data : BitVec 4) : Frame :=
  { toggle := h.toggle, escape := escape, channel := h.channel, address := h.address, mode := mode, data := data,
    checksum := h.checksum }

/-- The red sub-field of a standard_rc `data` (30_encoding.md R50). -/
def redSub (data : BitVec 4) : BitVec 2 := data.extractLsb' Config.stdRedLsb 2

/-- The blue sub-field of a standard_rc `data` (30_encoding.md R50). -/
def blueSub (data : BitVec 4) : BitVec 2 := data.extractLsb' Config.stdBlueLsb 2

/-- The standard_rc `data` with these two sub-fields (30_encoding.md R50). -/
def stdData (red blue : BitVec 2) : BitVec 4 :=
  (red.setWidth 4 <<< Config.stdRedLsb) ||| (blue.setWidth 4 <<< Config.stdBlueLsb)

/-- The class row of a frame: exactly one matches (30_encoding.md section 3). -/
def classRow (f : Frame) : Instr :=
  if f.escape = 1 then .comboPwmMode f.header f.mode f.data
  else if f.mode = 0 then .extendedMode f.header f.data
  else if f.mode = 1 then .standardRc f.header f.data
  else if f.mode = 2 then .noclassM2 f.header f.data
  else if f.mode = 3 then .noclassM3 f.header f.data
  else if f.mode = 4 then .pwmRcM4 f.header f.data
  else if f.mode = 5 then .pwmRcM5 f.header f.data
  else if f.mode = 6 then .noclassM6 f.header f.data
  else .pwmRcM7 f.header f.data

/-- The `STD.RED.*` row of a standard_rc frame (30_encoding.md R50). -/
def stdRedRow (f : Frame) : Instr :=
  if redSub f.data = Config.stdCodeStop then .stdRedStop f.header (blueSub f.data)
  else if redSub f.data = Config.stdCodeFwd then .stdRedFwd f.header (blueSub f.data)
  else if redSub f.data = Config.stdCodeBwd then .stdRedBwd f.header (blueSub f.data)
  else .stdRedCode3 f.header (blueSub f.data)

/-- The `STD.BLUE.*` row of a standard_rc frame (30_encoding.md R50). -/
def stdBlueRow (f : Frame) : Instr :=
  if blueSub f.data = Config.stdCodeStop then .stdBlueStop f.header (redSub f.data)
  else if blueSub f.data = Config.stdCodeFwd then .stdBlueFwd f.header (redSub f.data)
  else if blueSub f.data = Config.stdCodeBwd then .stdBlueBwd f.header (redSub f.data)
  else .stdBlueCode3 f.header (redSub f.data)

/-- The `PWM.RED.*.M4` row of a frame with mode 4; a named `data` value takes precedence over `OTHER` (30_encoding.md R51). -/
def pwmRowM4 (f : Frame) : Instr :=
  if f.data = Config.pwmDataInc then .pwmRedIncM4 f.header
  else if f.data = Config.pwmDataDec then .pwmRedDecM4 f.header
  else if f.data = Config.pwmDataReset then .pwmRedResetM4 f.header
  else .pwmRedOtherM4 f.header f.data

/-- The `PWM.BLUE.*.M5` row of a frame with mode 5 (30_encoding.md R51). -/
def pwmRowM5 (f : Frame) : Instr :=
  if f.data = Config.pwmDataInc then .pwmBlueIncM5 f.header
  else if f.data = Config.pwmDataDec then .pwmBlueDecM5 f.header
  else if f.data = Config.pwmDataReset then .pwmBlueResetM5 f.header
  else .pwmBlueOtherM5 f.header f.data

/-- The `PWM.BLUE.*.M7` row of a frame with mode 7 (30_encoding.md R51). -/
def pwmRowM7 (f : Frame) : Instr :=
  if f.data = Config.pwmDataInc then .pwmBlueIncM7 f.header
  else if f.data = Config.pwmDataDec then .pwmBlueDecM7 f.header
  else if f.data = Config.pwmDataReset then .pwmBlueResetM7 f.header
  else .pwmBlueOtherM7 f.header f.data

/-- The command rows of a frame: one of each group for standard_rc, one for pwm_rc, none for any other (30_encoding.md section 3). -/
def commandRows (f : Frame) : List Instr :=
  if f.escape = 1 then []
  else if f.mode = 1 then [stdRedRow f, stdBlueRow f]
  else if f.mode = 4 then [pwmRowM4 f]
  else if f.mode = 5 then [pwmRowM5 f]
  else if f.mode = 7 then [pwmRowM7 f]
  else []

/-- The function rows, computed for every frame (30_encoding.md section 3). -/
def functionRows (f : Frame) : List Instr :=
  [.fields f, .checksumOk f, .channel f, .singleOutputPort f, .redCommand f, .blueCommand f, .stateSignature f,
    .redEffected f, .blueEffected f]

/-- Every row of the table that a frame is, in the table's order. -/
def decodeRows (f : Frame) : List Instr :=
  classRow f :: (commandRows f ++ functionRows f)

/-- The rows that a word is, in a demodulator state. -/
def decode (st : DemodState) : CodeWord → List Instr
  | .sym dt => [decodeSym st dt]
  | .frame f => decodeRows (Frame.ofBits f)

/-- The word of an instruction, from the row's encoding string and its operands (30_encoding.md R45 to R51). -/
def encode : Instr → CodeWord
  | .short dt => .sym dt
  | .long dt => .sym dt
  | .lowIdle dt => .sym dt
  | .highIdle dt => .sym dt
  | .ssIdle dt => .sym dt
  | .ssSampling dt => .sym dt
  | .highSampling dt => .sym dt
  | .lowSampling dt => .sym dt
  | .extendedMode h d => .frame (h.frame 0 0 d).toBits
  | .standardRc h d => .frame (h.frame 0 1 d).toBits
  | .noclassM2 h d => .frame (h.frame 0 2 d).toBits
  | .noclassM3 h d => .frame (h.frame 0 3 d).toBits
  | .noclassM6 h d => .frame (h.frame 0 6 d).toBits
  | .pwmRcM4 h d => .frame (h.frame 0 4 d).toBits
  | .pwmRcM5 h d => .frame (h.frame 0 5 d).toBits
  | .pwmRcM7 h d => .frame (h.frame 0 7 d).toBits
  | .comboPwmMode h m d => .frame (h.frame 1 m d).toBits
  | .stdRedStop h b => .frame (h.frame 0 1 (stdData Config.stdCodeStop b)).toBits
  | .stdRedFwd h b => .frame (h.frame 0 1 (stdData Config.stdCodeFwd b)).toBits
  | .stdRedBwd h b => .frame (h.frame 0 1 (stdData Config.stdCodeBwd b)).toBits
  | .stdRedCode3 h b => .frame (h.frame 0 1 (stdData Config.stdCode3 b)).toBits
  | .stdBlueStop h r => .frame (h.frame 0 1 (stdData r Config.stdCodeStop)).toBits
  | .stdBlueFwd h r => .frame (h.frame 0 1 (stdData r Config.stdCodeFwd)).toBits
  | .stdBlueBwd h r => .frame (h.frame 0 1 (stdData r Config.stdCodeBwd)).toBits
  | .stdBlueCode3 h r => .frame (h.frame 0 1 (stdData r Config.stdCode3)).toBits
  | .pwmRedIncM4 h => .frame (h.frame 0 4 Config.pwmDataInc).toBits
  | .pwmRedDecM4 h => .frame (h.frame 0 4 Config.pwmDataDec).toBits
  | .pwmRedResetM4 h => .frame (h.frame 0 4 Config.pwmDataReset).toBits
  | .pwmRedOtherM4 h d => .frame (h.frame 0 4 d).toBits
  | .pwmBlueIncM5 h => .frame (h.frame 0 5 Config.pwmDataInc).toBits
  | .pwmBlueDecM5 h => .frame (h.frame 0 5 Config.pwmDataDec).toBits
  | .pwmBlueResetM5 h => .frame (h.frame 0 5 Config.pwmDataReset).toBits
  | .pwmBlueOtherM5 h d => .frame (h.frame 0 5 d).toBits
  | .pwmBlueIncM7 h => .frame (h.frame 0 7 Config.pwmDataInc).toBits
  | .pwmBlueDecM7 h => .frame (h.frame 0 7 Config.pwmDataDec).toBits
  | .pwmBlueResetM7 h => .frame (h.frame 0 7 Config.pwmDataReset).toBits
  | .pwmBlueOtherM7 h d => .frame (h.frame 0 7 d).toBits
  | .fields f => .frame f.toBits
  | .checksumOk f => .frame f.toBits
  | .channel f => .frame f.toBits
  | .singleOutputPort f => .frame f.toBits
  | .redCommand f => .frame f.toBits
  | .blueCommand f => .frame f.toBits
  | .stateSignature f => .frame f.toBits
  | .redEffected f => .frame f.toBits
  | .blueEffected f => .frame f.toBits

/-- The state in which a SYM row is the row of its word (opcode_table.json, `state`); the rows of any state and the FRAME rows
take Idle. -/
def Instr.homeState : Instr → DemodState
  | .short _ => .idle
  | .long _ => .idle
  | .lowIdle _ => .idle
  | .highIdle _ => .idle
  | .ssIdle _ => .idle
  | .ssSampling _ => .sampling
  | .highSampling _ => .sampling
  | .lowSampling _ => .sampling
  | .extendedMode _ _ => .idle
  | .standardRc _ _ => .idle
  | .noclassM2 _ _ => .idle
  | .noclassM3 _ _ => .idle
  | .noclassM6 _ _ => .idle
  | .pwmRcM4 _ _ => .idle
  | .pwmRcM5 _ _ => .idle
  | .pwmRcM7 _ _ => .idle
  | .comboPwmMode _ _ _ => .idle
  | .stdRedStop _ _ => .idle
  | .stdRedFwd _ _ => .idle
  | .stdRedBwd _ _ => .idle
  | .stdRedCode3 _ _ => .idle
  | .stdBlueStop _ _ => .idle
  | .stdBlueFwd _ _ => .idle
  | .stdBlueBwd _ _ => .idle
  | .stdBlueCode3 _ _ => .idle
  | .pwmRedIncM4 _ => .idle
  | .pwmRedDecM4 _ => .idle
  | .pwmRedResetM4 _ => .idle
  | .pwmRedOtherM4 _ _ => .idle
  | .pwmBlueIncM5 _ => .idle
  | .pwmBlueDecM5 _ => .idle
  | .pwmBlueResetM5 _ => .idle
  | .pwmBlueOtherM5 _ _ => .idle
  | .pwmBlueIncM7 _ => .idle
  | .pwmBlueDecM7 _ => .idle
  | .pwmBlueResetM7 _ => .idle
  | .pwmBlueOtherM7 _ _ => .idle
  | .fields _ => .idle
  | .checksumOk _ => .idle
  | .channel _ => .idle
  | .singleOutputPort _ => .idle
  | .redCommand _ => .idle
  | .blueCommand _ => .idle
  | .stateSignature _ => .idle
  | .redEffected _ => .idle
  | .blueEffected _ => .idle

/-- The one row the host is told for a frame: the most specific one, a command row before the class row. Of the two independent
command rows of a standard_rc frame it is the blue one, unless blue is stopped (log entry 14). -/
def primaryRow (f : Frame) : Instr :=
  if f.escape = 1 then classRow f
  else if f.mode = 1 then (if blueSub f.data = Config.stdCodeStop then stdRedRow f else stdBlueRow f)
  else if f.mode = 4 then pwmRowM4 f
  else if f.mode = 5 then pwmRowM5 f
  else if f.mode = 7 then pwmRowM7 f
  else classRow f

/-- Why a table word is no instruction: a word of neither format (30_encoding.md R45). -/
inductive DecodeRefusal where
  | notAFormat (nbits : Nat)
deriving DecidableEq, Repr

/-- The word that `nbits` bits of the table stand for: sixteen bits are a FRAME word; a row to which the table gives no bits is of
format SYM, and its word is the number `dt` (log entry 14). -/
def tableWord (nbits w : Nat) : Except DecodeRefusal CodeWord :=
  if nbits = 16 then .ok (.frame (BitVec.ofNat 16 w))
  else if nbits = 0 then .ok (.sym w)
  else .error (.notAFormat nbits)

/-- The instruction the decoder reads from a table word; a SYM word is read in Idle, the state after reset. -/
def decodeTableWord (nbits w : Nat) : Option Instr :=
  match tableWord nbits w with
  | .ok (.frame f) => some (primaryRow (Frame.ofBits f))
  | .ok (.sym dt) => some (decodeSym .idle dt)
  | .error _ => none

end Sys2Proof
end

