-- ==== Sys2Proof/WellFormed.lean ====
section
/-!
DEFINITION. Which terms of `Instr` are rows of the table: the inter-edge time lies in the row's window (30_encoding.md R46), and
an `OTHER` row's data is none of the named values (30_encoding.md R51, section 3).
-/

namespace Sys2Proof

/-- The term is an instruction. -/
def Instr.wellFormed : Instr → Bool
  | .short dt => classify dt == .short
  | .long dt => classify dt == .long
  | .lowIdle dt => classify dt == .low
  | .highIdle dt => classify dt == .high
  | .ssIdle dt => classify dt == .ss
  | .ssSampling dt => classify dt == .ss
  | .highSampling dt => classify dt == .high
  | .lowSampling dt => classify dt == .low
  | .extendedMode _ _ => true
  | .standardRc _ _ => true
  | .noclassM2 _ _ => true
  | .noclassM3 _ _ => true
  | .noclassM6 _ _ => true
  | .pwmRcM4 _ _ => true
  | .pwmRcM5 _ _ => true
  | .pwmRcM7 _ _ => true
  | .comboPwmMode _ _ _ => true
  | .stdRedStop _ _ => true
  | .stdRedFwd _ _ => true
  | .stdRedBwd _ _ => true
  | .stdRedCode3 _ _ => true
  | .stdBlueStop _ _ => true
  | .stdBlueFwd _ _ => true
  | .stdBlueBwd _ _ => true
  | .stdBlueCode3 _ _ => true
  | .pwmRedIncM4 _ => true
  | .pwmRedDecM4 _ => true
  | .pwmRedResetM4 _ => true
  | .pwmRedOtherM4 _ d => !pwmNamed d
  | .pwmBlueIncM5 _ => true
  | .pwmBlueDecM5 _ => true
  | .pwmBlueResetM5 _ => true
  | .pwmBlueOtherM5 _ d => !pwmNamed d
  | .pwmBlueIncM7 _ => true
  | .pwmBlueDecM7 _ => true
  | .pwmBlueResetM7 _ => true
  | .pwmBlueOtherM7 _ d => !pwmNamed d
  | .fields _ => true
  | .checksumOk _ => true
  | .channel _ => true
  | .singleOutputPort _ => true
  | .redCommand _ => true
  | .blueCommand _ => true
  | .stateSignature _ => true
  | .redEffected _ => true
  | .blueEffected _ => true

end Sys2Proof
end

