-- ==== Sys2Proof/Machine/State.lean ====
section
/-!
DEFINITION. The state of the block: its registers (10_state.md R10 to R17), the levels on its ports (10_state.md R20 to R22), and
five fields of the model's own (build, wiring, wasReset, draws, stimulus). The block has no memory (20_memory.md R30).
-/

namespace Sys2Proof.Machine

/-- Why a step can stop with a fault: for no reason. The block never traps, hangs or reports an error
(40_demodulator.md R84, 41_frame_decoder.md R100, 60_exceptions.md R160). -/
inductive Fault where
deriving DecidableEq, Repr

/-- Why a step or an instruction is refused. -/
inductive Refusal where
  /-- Raised by an arm of `exec` for an instruction with no meaning yet; no arm does. Safe. -/
  | notModelled (mnemonic : String)
deriving DecidableEq, Repr

/-- The levels on the decoder's output ports (10_state.md R22). The commands are an enumeration; `Command.code` gives their three
bits (92_eei_decisions.md D12). -/
structure DecoderOut where
  fldToggle : BitVec 1
  fldEscape : BitVec 1
  fldChannel : BitVec 2
  fldAddress : BitVec 1
  fldMode : BitVec 3
  fldData : BitVec 4
  fldChecksum : BitVec 4
  checksumOk : Bool
  isStandardRc : Bool
  isPwmRc : Bool
  isExtendedMode : Bool
  isComboPwmMode : Bool
  singleOutputPort : BitVec 1
  redCommand : Command
  blueCommand : Command
  redEffected : Bool
  blueEffected : Bool
  stateSignature : BitVec 8
deriving DecidableEq, Repr

/-- The levels of the input ports as captured at one rising clock edge (40_demodulator.md R88). -/
structure Sample where
  rst : Bool
  irIn : Bool
  decFrame : Raw
deriving DecidableEq, Repr

/-- What drives `dec_frame`: the environment, or `frame_data` directly (41_frame_decoder.md R100). -/
inductive Wiring where
  | separate
  | direct
deriving DecidableEq, Repr

/-- The machine. Between two rising clock edges the registers and the output wires are as the last edge left them. -/
structure State where
  /-- `STATE`. -/
  state : DemodState
  /-- `POS`. -/
  pos : Pos
  /-- `RAW`; also the output port `frame_data`. -/
  raw : Raw
  /-- `DT`. -/
  dt : Micros
  /-- `PRESC`, a number below `CLK_PER_US` once there was a reset (log entry 12). -/
  presc : Nat
  /-- `SYNC0`. -/
  sync0 : Bool
  /-- `SYNC1`. -/
  sync1 : Bool
  /-- `SYNC2`. -/
  sync2 : Bool
  /-- `FRAME_VALID`; also the output port `frame_valid`. -/
  frameValid : Bool
  /-- The level of the input port `rst` at the latest clock edge. -/
  rst : Bool
  /-- The level of the input port `ir_in` at the latest clock edge. -/
  irIn : Bool
  /-- The value at the input port `dec_frame`. -/
  decFrame : Raw
  /-- The levels on the decoder's output ports. -/
  out : DecoderOut
  /-- The open parameters of this instance of the block; no step writes them. -/
  build : Build
  /-- What drives `dec_frame`; no step writes it. -/
  wiring : Wiring
  /-- Whether a rising clock edge with `rst == 1` has happened. -/
  wasReset : Bool
  /-- How many free values have been drawn for the registers before the first reset; read and advanced by such an edge only. -/
  draws : Nat
  /-- The captured input levels of the coming clock edges, next first. When none is left the levels stay. -/
  stimulus : List Sample
deriving DecidableEq, Repr

/-- The decoder's output levels for `dec_frame == 0x0000` (95_test_vectors.md table V4). -/
def DecoderOut.zeroFrame : DecoderOut :=
  { fldToggle := 0, fldEscape := 0, fldChannel := 0, fldAddress := 0, fldMode := 0, fldData := 0, fldChecksum := 0
    checksumOk := false, isStandardRc := false, isPwmRc := false, isExtendedMode := true, isComboPwmMode := false
    singleOutputPort := 0, redCommand := .notApplicable, blueCommand := .notApplicable
    redEffected := true, blueEffected := false, stateSignature := 0 }

/-- The machine right after a rising clock edge with `rst == 1`: the registers as the table of 10_state.md R23 has them.
DESIGN CHOICE, unsafe (log entries 1, 2, 4, 7, 8): the input levels 0, `CLK_PER_US` 1, separate wiring, no stimulus, no draw. -/
def State.reset : State :=
  { state := .idle, pos := 15, raw := 0x0000, dt := Config.dtSat, presc := 0
    sync0 := false, sync1 := false, sync2 := false, frameValid := false
    rst := false, irIn := false, decFrame := 0x0000, out := DecoderOut.zeroFrame
    build := Config.build, wiring := .separate, wasReset := true, draws := 0, stimulus := [] }

end Sys2Proof.Machine
end

