-- ==== Sys2Proof/Machine/Operands.lean ====
section
/-!
DEFINITION. The operand forms of the decoder's functions: the nibbles of the checksum view (30_encoding.md R48), the shifted
fields of the signature (41_frame_decoder.md R115) and the command codes of a `data` value (41_frame_decoder.md R112).
-/

namespace Sys2Proof.Machine

/-- `n1 = f[15:12] = toggle, escape, channel` (30_encoding.md R48). -/
def nibble1 (f : Frame) : Nibble := f.toggle ++ f.escape ++ f.channel

/-- `n2 = f[11:8] = address, mode` (30_encoding.md R48). -/
def nibble2 (f : Frame) : Nibble := f.address ++ f.mode

/-- `n3 = f[7:4] = data` (30_encoding.md R48). -/
def nibble3 (f : Frame) : Nibble := f.data

/-- `n4 = f[3:0] = checksum` (30_encoding.md R48). -/
def nibble4 (f : Frame) : Nibble := f.checksum

/-- `std_cmd(c)`, the command of a 2-bit sub-field (41_frame_decoder.md R112). -/
def stdCmd (b : Build) (c : BitVec 2) : Command :=
  if c = Config.stdCodeStop then .stop
  else if c = Config.stdCodeFwd then .forward
  else if c = Config.stdCodeBwd then .backward
  else b.stdCode3.toCommand

/-- `pwm_cmd(d)`, the command of a 4-bit `data` (41_frame_decoder.md R112). -/
def pwmCmd (b : Build) (d : BitVec 4) : Command :=
  if d = Config.pwmDataInc then .increase
  else if d = Config.pwmDataDec then .decrease
  else if d = Config.pwmDataReset then .reset
  else b.pwmOther

end Sys2Proof.Machine
end

