-- ==== Sys2Proof/Machine/Flags.lean ====
section
/-!
DEFINITION. The boolean and code outputs of the decoder, each one function of the frame (41_frame_decoder.md R103 to R117). The
block has no status flags (10_state.md R19); these are combinational results.
-/

namespace Sys2Proof.Machine

/-- `checksum_ok` (41_frame_decoder.md R103). -/
def checksumOk (f : Frame) : Bool :=
  (0xF#4 ^^^ nibble1 f ^^^ nibble2 f ^^^ nibble3 f) == nibble4 f

/-- `is_extended_mode` (41_frame_decoder.md R105). -/
def isExtendedMode (f : Frame) : Bool := f.escape == 0 && f.mode == 0

/-- `is_standard_rc` (41_frame_decoder.md R106). -/
def isStandardRc (f : Frame) : Bool := f.escape == 0 && f.mode == 1

/-- `is_combo_pwm_mode` (41_frame_decoder.md R107). -/
def isComboPwmMode (f : Frame) : Bool := f.escape == 1

/-- `is_pwm_rc`, with the excluded mode as the document writes it (41_frame_decoder.md R108, 93_implementation_defined.md U6). -/
def isPwmRc (f : Frame) : Bool :=
  f.escape == 0 && (f.mode &&& 0x4 != 0) && f.mode != Config.pwmExcludedMode

/-- `single_output_port = mode & 1`, for every frame (41_frame_decoder.md R110). -/
def singleOutputPort (f : Frame) : BitVec 1 := (f.mode &&& 1).setWidth 1

/-- `red_command` (41_frame_decoder.md R112). -/
def redCommand (b : Build) (f : Frame) : Command :=
  if isStandardRc f then stdCmd b (redSub f.data)
  else if isPwmRc f && singleOutputPort f == 0 then pwmCmd b f.data
  else .notApplicable

/-- `blue_command` (41_frame_decoder.md R113). -/
def blueCommand (b : Build) (f : Frame) : Command :=
  if isStandardRc f then stdCmd b (blueSub f.data)
  else if isPwmRc f && singleOutputPort f == 1 then pwmCmd b f.data
  else .notApplicable

/-- `state_signature`, all terms eight bits wide, the overlap of `data` and `mode` kept (41_frame_decoder.md R115,
90_conflicts.md C3). -/
def stateSignature (f : Frame) : BitVec 8 :=
  (f.data.setWidth 8 <<< 4) ||| (f.mode.setWidth 8 <<< 3) ||| f.toggle.setWidth 8

/-- `red_effected`, for every frame (41_frame_decoder.md R116, 90_conflicts.md C5). -/
def redEffected (f : Frame) : Bool := isStandardRc f || singleOutputPort f == 0

/-- `blue_effected`, for every frame (41_frame_decoder.md R117, 90_conflicts.md C5). -/
def blueEffected (f : Frame) : Bool := isStandardRc f || singleOutputPort f == 1

/-- All decoder outputs as one function of the frame, none gated by the checksum (41_frame_decoder.md R100). -/
def decoderOut (b : Build) (f : Frame) : DecoderOut :=
  { fldToggle := f.toggle
    fldEscape := f.escape
    fldChannel := f.channel
    fldAddress := f.address
    fldMode := f.mode
    fldData := f.data
    fldChecksum := f.checksum
    checksumOk := checksumOk f
    isStandardRc := isStandardRc f
    isPwmRc := isPwmRc f
    isExtendedMode := isExtendedMode f
    isComboPwmMode := isComboPwmMode f
    singleOutputPort := singleOutputPort f
    redCommand := redCommand b f
    blueCommand := blueCommand b f
    redEffected := redEffected f
    blueEffected := blueEffected f
    stateSignature := stateSignature f }

end Sys2Proof.Machine
end

