-- ==== Sys2Proof/Machine/Ops.lean ====
section
/-!
DEFINITION. The named operations over the registers and the output wires. Meanings and the clock edge are written over these.
-/

namespace Sys2Proof.Machine

/-- Run the next part when this one answered a next state. -/
def andThen (o : Host.Outcome State Fault Refusal) (k : State → Host.Outcome State Fault Refusal) :
    Host.Outcome State Fault Refusal :=
  match o with
  | .next s => k s
  | .fault r => .fault r
  | .refused r => .refused r

/-! The demodulator's registers. -/

/-- The whole entry of a `TIMING_ERROR`: `STATE <- Idle`; nothing is saved, `POS` and `RAW` hold (60_exceptions.md R166,
40_demodulator.md R77). There is no return from it; the next accepted `SS` opens a frame (60_exceptions.md R167). -/
def forceIdle (s : State) : State := { s with state := .idle }

/-- Align to a new frame: `RAW <- 0x0000`, `POS <- 15` (20_memory.md R35, 40_demodulator.md R79 and R80). This is also the whole
effect of an `EARLY_START` (60_exceptions.md R162). -/
def alignFrame (s : State) : State := { s with raw := 0x0000, pos := 15 }

/-- `emit Frame(v)`: `FRAME_VALID <- 1` and `RAW <- v` (40_demodulator.md R85). -/
def emitFrame (v : Raw) (s : State) : State := { s with frameValid := true, raw := v }

/-- `RAW | (1 << POS)`, sixteen bits wide (40_demodulator.md R81, R89 (b)). -/
def setBitAt (raw : Raw) (pos : Pos) : Raw := raw ||| (1#16 <<< pos.toNat)

/-- The position step with the value `v` that `RAW` takes in this event (40_demodulator.md R83): down by one, or, after the
sixteenth bit, hand the frame out, `STATE <- Idle`, `POS <- 15`. -/
def positionStep (v : Raw) (s : State) : State :=
  if s.pos ≠ 0 then { s with raw := v, pos := s.pos - 1 }
  else { emitFrame v s with state := .idle, pos := 15 }

/-- At every clock edge that completes no frame, `FRAME_VALID <- 0` (40_demodulator.md R85). The edge clears it first; only
`emitFrame` sets it again. -/
def clearStrobe (s : State) : State := { s with frameValid := false }

/-- Every register at its reset value, whatever it held (10_state.md R23, 40_demodulator.md R73). -/
def resetRegisters (s : State) : State :=
  { s with
    state := .idle, pos := 15, raw := 0x0000, dt := Config.dtSat, presc := 0
    sync0 := false, sync1 := false, sync2 := false, frameValid := false, wasReset := true }

/-- Before the first reset every register is unspecified: each takes a free value, whatever the registers and the pin are, `PRESC`
one of its width (70_reset_and_hazards.md R180, 93_implementation_defined.md U11; log entry 8). -/
def unspecifyRegisters (s : State) : State :=
  let r := Config.unspecifiedRegisters s.draws
  { s with
    state := r.state, pos := r.pos, raw := r.raw, dt := r.dt, presc := r.presc % 2 ^ s.build.prescWidth
    sync0 := r.sync0, sync1 := r.sync1, sync2 := r.sync2, frameValid := r.frameValid, draws := s.draws + 1 }

/-! The time counter and the synchroniser. -/

/-- `sat_inc(v)`: `v + 1` below `DT_SAT`, else `DT_SAT`; it never wraps (00_scope.md section 5, 40_demodulator.md R89 (d)). -/
def satInc (v : Micros) : Micros := if v < Config.dtSat then v + 1 else Config.dtSat

/-- `tick = (PRESC == CLK_PER_US - 1)` (40_demodulator.md R74). -/
def tick (s : State) : Bool := s.presc == s.build.clkPerUs - 1

/-- `dt_now`, the inter-edge time if the edge is processed now (40_demodulator.md R74). -/
def dtNow (s : State) : Micros := if tick s then satInc s.dt else s.dt

/-- `fall = (SYNC2 == 1) and (SYNC1 == 0)`, from the values before the edge (10_state.md R16). -/
def fall (s : State) : Bool := s.sync2 && !s.sync1

/-- The value `DT` takes at this clock edge (40_demodulator.md R75). -/
def nextDt (s : State) : Micros :=
  if fall s then 0 else if tick s then satInc s.dt else s.dt

/-- The value `PRESC` takes at this clock edge (40_demodulator.md R75). -/
def nextPresc (s : State) : Nat :=
  if fall s then 0 else if tick s then 0 else s.presc + 1

/-- Write the time counter and shift the synchroniser, all right-hand sides from the state before the edge (40_demodulator.md R73,
R75, 10_state.md R16). -/
def latchTiming (before after : State) : State :=
  { after with
    dt := nextDt before, presc := nextPresc before
    sync0 := before.irIn, sync1 := before.sync0, sync2 := before.sync1 }

/-! The ports. -/

/-- The input levels captured at this clock edge: the next sample of the stimulus, or the levels that stand (40_demodulator.md R88;
log entry 1). -/
def sampleInputs (s : State) : State :=
  match s.stimulus with
  | [] => s
  | x :: rest => { s with rst := x.rst, irIn := x.irIn, decFrame := x.decFrame, stimulus := rest }

/-- In the direct wiring `dec_frame` shows `frame_data` (41_frame_decoder.md R100). -/
def driveDecFrame (s : State) : State :=
  match s.wiring with
  | .separate => s
  | .direct => { s with decFrame := s.raw }

/-- The output port `frame_valid` (10_state.md R21). -/
abbrev frameValidPort (s : State) : Bool := s.frameValid

/-- The output port `frame_data`, equal to `RAW` at all times (10_state.md R21). -/
abbrev frameDataPort (s : State) : Raw := s.raw

/-- The frame a consumer takes in this cycle: one only while `frame_valid == 1` (70_reset_and_hazards.md R183, R184). -/
def frameOffered (s : State) : Option Raw := if frameValidPort s then some (frameDataPort s) else none

/-- Drive the four class outputs. -/
def driveClass (extended standard pwm combo : Bool) (s : State) : State :=
  { s with
    out := { s.out with
      isExtendedMode := extended, isStandardRc := standard, isPwmRc := pwm, isComboPwmMode := combo } }

/-- Drive `red_command`. -/
def driveRed (c : Command) (s : State) : State := { s with out := { s.out with redCommand := c } }

/-- Drive `blue_command`. -/
def driveBlue (c : Command) (s : State) : State := { s with out := { s.out with blueCommand := c } }

/-- Drive both commands. -/
def driveCommands (red blue : Command) (s : State) : State :=
  { s with out := { s.out with redCommand := red, blueCommand := blue } }

end Sys2Proof.Machine
end

