-- ==== Sys2Proof/Machine/Classes.lean ====
section
/-!
DEFINITION. The meanings of the nine class rows: the frame's class on the four class outputs, at most one of them 1
(41_frame_decoder.md R105 to R111).
-/

namespace Sys2Proof.Machine

/-- `EXTENDED_MODE`: reserved and inert (41_frame_decoder.md R105). -/
def execExtendedMode (_h : Header) (_data : BitVec 4) (s : State) : Host.Outcome State Fault Refusal :=
  .next (driveClass true false false false s)

/-- `STANDARD_RC`: both sub-channels (41_frame_decoder.md R106). -/
def execStandardRc (_h : Header) (_data : BitVec 4) (s : State) : Host.Outcome State Fault Refusal :=
  .next (driveClass false true false false s)

/-- `NOCLASS.M2`: no class output is 1 (41_frame_decoder.md R109). -/
def execNoclassM2 (_h : Header) (_data : BitVec 4) (s : State) : Host.Outcome State Fault Refusal :=
  .next (driveClass false false false false s)

/-- `NOCLASS.M3`: no class output is 1 (41_frame_decoder.md R109). -/
def execNoclassM3 (_h : Header) (_data : BitVec 4) (s : State) : Host.Outcome State Fault Refusal :=
  .next (driveClass false false false false s)

/-- `NOCLASS.M6`: excluded from pwm_rc by name, no class output is 1 (41_frame_decoder.md R108, R109). -/
def execNoclassM6 (_h : Header) (_data : BitVec 4) (s : State) : Host.Outcome State Fault Refusal :=
  .next (driveClass false false false false s)

/-- `PWM_RC.M4`: single output, red (41_frame_decoder.md R108). -/
def execPwmRcM4 (_h : Header) (_data : BitVec 4) (s : State) : Host.Outcome State Fault Refusal :=
  .next (driveClass false false true false s)

/-- `PWM_RC.M5`: single output, blue (41_frame_decoder.md R108). -/
def execPwmRcM5 (_h : Header) (_data : BitVec 4) (s : State) : Host.Outcome State Fault Refusal :=
  .next (driveClass false false true false s)

/-- `PWM_RC.M7`: single output, blue (41_frame_decoder.md R108). -/
def execPwmRcM7 (_h : Header) (_data : BitVec 4) (s : State) : Host.Outcome State Fault Refusal :=
  .next (driveClass false false true false s)

/-- `COMBO_PWM_MODE`: recognised, inert, for every mode (41_frame_decoder.md R107). -/
def execComboPwmMode (_h : Header) (_mode : BitVec 3) (_data : BitVec 4) (s : State) : Host.Outcome State Fault Refusal :=
  .next (driveClass false false false true s)

end Sys2Proof.Machine
end

