-- ==== Sys2Proof/Machine/Commands.lean ====
section
/-!
DEFINITION. The meanings of the twenty command rows: the row's command on `red_command`, on `blue_command`, or on both
(41_frame_decoder.md R112, R113; the table's `result`).
-/

namespace Sys2Proof.Machine

/-- `STD.RED.STOP`: `red_command` is Stop (41_frame_decoder.md R112). -/
def execStdRedStop (_h : Header) (_blue : BitVec 2) (s : State) : Host.Outcome State Fault Refusal :=
  .next (driveRed .stop s)

/-- `STD.RED.FWD`: `red_command` is Forward (41_frame_decoder.md R112). -/
def execStdRedFwd (_h : Header) (_blue : BitVec 2) (s : State) : Host.Outcome State Fault Refusal :=
  .next (driveRed .forward s)

/-- `STD.RED.BWD`: `red_command` is Backward (41_frame_decoder.md R112). -/
def execStdRedBwd (_h : Header) (_blue : BitVec 2) (s : State) : Host.Outcome State Fault Refusal :=
  .next (driveRed .backward s)

/-- `STD.RED.CODE3`: `red_command` is the open parameter `STD_CODE3_CMD` (41_frame_decoder.md R112). -/
def execStdRedCode3 (_h : Header) (_blue : BitVec 2) (s : State) : Host.Outcome State Fault Refusal :=
  .next (driveRed s.build.stdCode3.toCommand s)

/-- `STD.BLUE.STOP`: `blue_command` is Stop (41_frame_decoder.md R113). -/
def execStdBlueStop (_h : Header) (_red : BitVec 2) (s : State) : Host.Outcome State Fault Refusal :=
  .next (driveBlue .stop s)

/-- `STD.BLUE.FWD`: `blue_command` is Forward (41_frame_decoder.md R113). -/
def execStdBlueFwd (_h : Header) (_red : BitVec 2) (s : State) : Host.Outcome State Fault Refusal :=
  .next (driveBlue .forward s)

/-- `STD.BLUE.BWD`: `blue_command` is Backward (41_frame_decoder.md R113). -/
def execStdBlueBwd (_h : Header) (_red : BitVec 2) (s : State) : Host.Outcome State Fault Refusal :=
  .next (driveBlue .backward s)

/-- `STD.BLUE.CODE3`: `blue_command` is the open parameter `STD_CODE3_CMD` (41_frame_decoder.md R113). -/
def execStdBlueCode3 (_h : Header) (_red : BitVec 2) (s : State) : Host.Outcome State Fault Refusal :=
  .next (driveBlue s.build.stdCode3.toCommand s)

/-- `PWM.RED.INC.M4`: `red_command` is Increase, the other command NotApplicable (41_frame_decoder.md R112). -/
def execPwmRedIncM4 (_h : Header) (s : State) : Host.Outcome State Fault Refusal :=
  .next (driveCommands .increase .notApplicable s)

/-- `PWM.RED.DEC.M4`: `red_command` is Decrease, the other command NotApplicable (41_frame_decoder.md R112). -/
def execPwmRedDecM4 (_h : Header) (s : State) : Host.Outcome State Fault Refusal :=
  .next (driveCommands .decrease .notApplicable s)

/-- `PWM.RED.RESET.M4`: `red_command` is Reset, the other command NotApplicable (41_frame_decoder.md R112). -/
def execPwmRedResetM4 (_h : Header) (s : State) : Host.Outcome State Fault Refusal :=
  .next (driveCommands .reset .notApplicable s)

/-- `PWM.RED.OTHER.M4`: `red_command` is the open parameter `PWM_OTHER_CMD`, the other command NotApplicable (41_frame_decoder.md R112). -/
def execPwmRedOtherM4 (_h : Header) (_data : BitVec 4) (s : State) : Host.Outcome State Fault Refusal :=
  .next (driveCommands s.build.pwmOther .notApplicable s)

/-- `PWM.BLUE.INC.M5`: `blue_command` is Increase, the other command NotApplicable (41_frame_decoder.md R113). -/
def execPwmBlueIncM5 (_h : Header) (s : State) : Host.Outcome State Fault Refusal :=
  .next (driveCommands .notApplicable .increase s)

/-- `PWM.BLUE.DEC.M5`: `blue_command` is Decrease, the other command NotApplicable (41_frame_decoder.md R113). -/
def execPwmBlueDecM5 (_h : Header) (s : State) : Host.Outcome State Fault Refusal :=
  .next (driveCommands .notApplicable .decrease s)

/-- `PWM.BLUE.RESET.M5`: `blue_command` is Reset, the other command NotApplicable (41_frame_decoder.md R113). -/
def execPwmBlueResetM5 (_h : Header) (s : State) : Host.Outcome State Fault Refusal :=
  .next (driveCommands .notApplicable .reset s)

/-- `PWM.BLUE.OTHER.M5`: `blue_command` is the open parameter `PWM_OTHER_CMD`, the other command NotApplicable (41_frame_decoder.md R113). -/
def execPwmBlueOtherM5 (_h : Header) (_data : BitVec 4) (s : State) : Host.Outcome State Fault Refusal :=
  .next (driveCommands .notApplicable s.build.pwmOther s)

/-- `PWM.BLUE.INC.M7`: `blue_command` is Increase, the other command NotApplicable (41_frame_decoder.md R113). -/
def execPwmBlueIncM7 (_h : Header) (s : State) : Host.Outcome State Fault Refusal :=
  .next (driveCommands .notApplicable .increase s)

/-- `PWM.BLUE.DEC.M7`: `blue_command` is Decrease, the other command NotApplicable (41_frame_decoder.md R113). -/
def execPwmBlueDecM7 (_h : Header) (s : State) : Host.Outcome State Fault Refusal :=
  .next (driveCommands .notApplicable .decrease s)

/-- `PWM.BLUE.RESET.M7`: `blue_command` is Reset, the other command NotApplicable (41_frame_decoder.md R113). -/
def execPwmBlueResetM7 (_h : Header) (s : State) : Host.Outcome State Fault Refusal :=
  .next (driveCommands .notApplicable .reset s)

/-- `PWM.BLUE.OTHER.M7`: `blue_command` is the open parameter `PWM_OTHER_CMD`, the other command NotApplicable (41_frame_decoder.md R113). -/
def execPwmBlueOtherM7 (_h : Header) (_data : BitVec 4) (s : State) : Host.Outcome State Fault Refusal :=
  .next (driveCommands .notApplicable s.build.pwmOther s)

end Sys2Proof.Machine
end

