-- ==== Sys2Proof/Machine/Functions.lean ====
section
/-!
DEFINITION. The meanings of the nine function rows, computed for every frame whether or not its checksum is right
(41_frame_decoder.md R100 to R117).
-/

namespace Sys2Proof.Machine

/-- `FIELDS`: the seven field outputs (41_frame_decoder.md R101). -/
def execFields (f : Frame) (s : State) : Host.Outcome State Fault Refusal :=
  .next { s with
    out := { s.out with
      fldToggle := f.toggle, fldEscape := f.escape, fldChannel := f.channel, fldAddress := f.address
      fldMode := f.mode, fldData := f.data, fldChecksum := f.checksum } }

/-- `CHECKSUM_OK`: the output `checksum_ok` (41_frame_decoder.md R103). -/
def execChecksumOk (f : Frame) (s : State) : Host.Outcome State Fault Refusal :=
  .next { s with out := { s.out with checksumOk := checksumOk f } }

/-- `CHANNEL`: `fld_channel`, the document's `channel()` (41_frame_decoder.md R104). -/
def execChannel (f : Frame) (s : State) : Host.Outcome State Fault Refusal :=
  .next { s with out := { s.out with fldChannel := f.channel } }

/-- `SINGLE_OUTPUT_PORT`: the output `single_output_port` (41_frame_decoder.md R110). -/
def execSingleOutputPort (f : Frame) (s : State) : Host.Outcome State Fault Refusal :=
  .next { s with out := { s.out with singleOutputPort := singleOutputPort f } }

/-- `RED_COMMAND`: the output `red_command` (41_frame_decoder.md R112). -/
def execRedCommand (f : Frame) (s : State) : Host.Outcome State Fault Refusal :=
  .next (driveRed (redCommand s.build f) s)

/-- `BLUE_COMMAND`: the output `blue_command` (41_frame_decoder.md R113). -/
def execBlueCommand (f : Frame) (s : State) : Host.Outcome State Fault Refusal :=
  .next (driveBlue (blueCommand s.build f) s)

/-- `STATE_SIGNATURE`: the output `state_signature` (41_frame_decoder.md R115). -/
def execStateSignature (f : Frame) (s : State) : Host.Outcome State Fault Refusal :=
  .next { s with out := { s.out with stateSignature := stateSignature f } }

/-- `RED_EFFECTED`: the output `red_effected` (41_frame_decoder.md R116). -/
def execRedEffected (f : Frame) (s : State) : Host.Outcome State Fault Refusal :=
  .next { s with out := { s.out with redEffected := redEffected f } }

/-- `BLUE_EFFECTED`: the output `blue_effected` (41_frame_decoder.md R117). -/
def execBlueEffected (f : Frame) (s : State) : Host.Outcome State Fault Refusal :=
  .next { s with out := { s.out with blueEffected := blueEffected f } }

end Sys2Proof.Machine
end

