-- ==== Sys2Proof/Machine/Symbols.lean ====
section
/-!
DEFINITION. The meanings of the eight symbol rows (40_demodulator.md R77 to R83). Each is its rule's pseudocode, with the rule's
own guard on `STATE` and the class of `dt`: where the guard does not hold the rule writes nothing (log entry 13). No row
writes a register but `STATE`, `POS`, `RAW` and, through `emitFrame`, `FRAME_VALID`.
-/

namespace Sys2Proof.Machine

/-- `SHORT`: `TIMING_ERROR`, in any state (40_demodulator.md R77). -/
def execShort (dt : Nat) (s : State) : Host.Outcome State Fault Refusal :=
  if classify dt = .short then .next (forceIdle s) else .next s

/-- `LONG`: `TIMING_ERROR`, in any state (40_demodulator.md R77). -/
def execLong (dt : Nat) (s : State) : Host.Outcome State Fault Refusal :=
  if classify dt = .long then .next (forceIdle s) else .next s

/-- `LOW.IDLE`: a 0 bit with no frame open; no register changes (40_demodulator.md R78). -/
def execLowIdle (_dt : Nat) (s : State) : Host.Outcome State Fault Refusal := .next s

/-- `HIGH.IDLE`: a 1 bit with no frame open; no register changes (40_demodulator.md R78). -/
def execHighIdle (_dt : Nat) (s : State) : Host.Outcome State Fault Refusal := .next s

/-- `SS.IDLE`: open a frame (40_demodulator.md R79). -/
def execSsIdle (dt : Nat) (s : State) : Host.Outcome State Fault Refusal :=
  if s.state = .idle ∧ classify dt = .ss then .next { alignFrame s with state := .sampling } else .next s

/-- `SS.SAMPLING`: `EARLY_START`, restart the frame and stay in Sampling (40_demodulator.md R80). -/
def execSsSampling (dt : Nat) (s : State) : Host.Outcome State Fault Refusal :=
  if s.state = .sampling ∧ classify dt = .ss then .next (alignFrame s) else .next s

/-- `HIGH.SAMPLING`: a 1 bit; set bit `POS`, then the position step (40_demodulator.md R81, R83). -/
def execHighSampling (dt : Nat) (s : State) : Host.Outcome State Fault Refusal :=
  if s.state = .sampling ∧ classify dt = .high then .next (positionStep (setBitAt s.raw s.pos) s) else .next s

/-- `LOW.SAMPLING`: a 0 bit; `RAW` unchanged, then the position step (40_demodulator.md R82, R83). -/
def execLowSampling (dt : Nat) (s : State) : Host.Outcome State Fault Refusal :=
  if s.state = .sampling ∧ classify dt = .low then .next (positionStep s.raw s) else .next s

end Sys2Proof.Machine
end

