-- ==== Sys2Proof/Machine/Dispatch.lean ====
section
/-! DEFINITION. The meaning of each instruction: one arm per row of spec/opcode_table.json. -/

namespace Sys2Proof.Machine

def exec (i : Instr) (s : State) : Host.Outcome State Fault Refusal :=
  match i with
  | .short dt => Sys2Proof.Machine.execShort dt s
  | .long dt => Sys2Proof.Machine.execLong dt s
  | .lowIdle dt => Sys2Proof.Machine.execLowIdle dt s
  | .highIdle dt => Sys2Proof.Machine.execHighIdle dt s
  | .ssIdle dt => Sys2Proof.Machine.execSsIdle dt s
  | .ssSampling dt => Sys2Proof.Machine.execSsSampling dt s
  | .highSampling dt => Sys2Proof.Machine.execHighSampling dt s
  | .lowSampling dt => Sys2Proof.Machine.execLowSampling dt s
  | .extendedMode h d => Sys2Proof.Machine.execExtendedMode h d s
  | .standardRc h d => Sys2Proof.Machine.execStandardRc h d s
  | .noclassM2 h d => Sys2Proof.Machine.execNoclassM2 h d s
  | .noclassM3 h d => Sys2Proof.Machine.execNoclassM3 h d s
  | .noclassM6 h d => Sys2Proof.Machine.execNoclassM6 h d s
  | .pwmRcM4 h d => Sys2Proof.Machine.execPwmRcM4 h d s
  | .pwmRcM5 h d => Sys2Proof.Machine.execPwmRcM5 h d s
  | .pwmRcM7 h d => Sys2Proof.Machine.execPwmRcM7 h d s
  | .comboPwmMode h m d => Sys2Proof.Machine.execComboPwmMode h m d s
  | .stdRedStop h b => Sys2Proof.Machine.execStdRedStop h b s
  | .stdRedFwd h b => Sys2Proof.Machine.execStdRedFwd h b s
  | .stdRedBwd h b => Sys2Proof.Machine.execStdRedBwd h b s
  | .stdRedCode3 h b => Sys2Proof.Machine.execStdRedCode3 h b s
  | .stdBlueStop h r => Sys2Proof.Machine.execStdBlueStop h r s
  | .stdBlueFwd h r => Sys2Proof.Machine.execStdBlueFwd h r s
  | .stdBlueBwd h r => Sys2Proof.Machine.execStdBlueBwd h r s
  | .stdBlueCode3 h r => Sys2Proof.Machine.execStdBlueCode3 h r s
  | .pwmRedIncM4 h => Sys2Proof.Machine.execPwmRedIncM4 h s
  | .pwmRedDecM4 h => Sys2Proof.Machine.execPwmRedDecM4 h s
  | .pwmRedResetM4 h => Sys2Proof.Machine.execPwmRedResetM4 h s
  | .pwmRedOtherM4 h d => Sys2Proof.Machine.execPwmRedOtherM4 h d s
  | .pwmBlueIncM5 h => Sys2Proof.Machine.execPwmBlueIncM5 h s
  | .pwmBlueDecM5 h => Sys2Proof.Machine.execPwmBlueDecM5 h s
  | .pwmBlueResetM5 h => Sys2Proof.Machine.execPwmBlueResetM5 h s
  | .pwmBlueOtherM5 h d => Sys2Proof.Machine.execPwmBlueOtherM5 h d s
  | .pwmBlueIncM7 h => Sys2Proof.Machine.execPwmBlueIncM7 h s
  | .pwmBlueDecM7 h => Sys2Proof.Machine.execPwmBlueDecM7 h s
  | .pwmBlueResetM7 h => Sys2Proof.Machine.execPwmBlueResetM7 h s
  | .pwmBlueOtherM7 h d => Sys2Proof.Machine.execPwmBlueOtherM7 h d s
  | .fields f => Sys2Proof.Machine.execFields f s
  | .checksumOk f => Sys2Proof.Machine.execChecksumOk f s
  | .channel f => Sys2Proof.Machine.execChannel f s
  | .singleOutputPort f => Sys2Proof.Machine.execSingleOutputPort f s
  | .redCommand f => Sys2Proof.Machine.execRedCommand f s
  | .blueCommand f => Sys2Proof.Machine.execBlueCommand f s
  | .stateSignature f => Sys2Proof.Machine.execStateSignature f s
  | .redEffected f => Sys2Proof.Machine.execRedEffected f s
  | .blueEffected f => Sys2Proof.Machine.execBlueEffected f s

end Sys2Proof.Machine
end

