-- ==== Sys2Proof/Machine/Clock.lean ====
section
/-!
DEFINITION. One detected edge (40_demodulator.md R70 to R72), one rising clock edge (R73, R76), the settling of the decoder
(41_frame_decoder.md R100), and how a word is placed where the next step runs it.
-/

namespace Sys2Proof.Machine

/-- Run the rows in order, each on the state the one before left. -/
def runRows : List Instr → State → Host.Outcome State Fault Refusal
  | [], s => .next s
  | i :: rest, s => andThen (exec i s) (runRows rest)

/-- One event-level step: the edge's row on the state whose strobe is cleared; `frameValid` afterwards says whether the step
emitted a frame (40_demodulator.md R70, R72, R85). -/
def eventStep (dt : Nat) (s : State) : Host.Outcome State Fault Refusal :=
  exec (decodeSym s.state dt) (clearStrobe s)

/-- One rising clock edge with `rst == 0`: a detected edge is one event with `dt = dt_now`; otherwise `STATE`, `POS` and `RAW` hold
and `FRAME_VALID <- 0` (40_demodulator.md R76). The time counter and the synchroniser read the state before the edge (R73). -/
def clockEdge (s : State) : Host.Outcome State Fault Refusal :=
  andThen (if fall s then eventStep (dtNow s).toNat s else .next (clearStrobe s))
    fun t => .next (latchTiming s t)

/-- The decoder follows `dec_frame`: every row that the frame is (41_frame_decoder.md R100). -/
def settleDecoder (s : State) : Host.Outcome State Fault Refusal :=
  runRows (decodeRows (Frame.ofBits s.decFrame)) s

/-- What a rising clock edge does to the registers: `rst` over everything (40_demodulator.md R73, 60_exceptions.md R165); before the
first reset they are unspecified (70_reset_and_hazards.md R180). -/
def registerEdge (s : State) : Host.Outcome State Fault Refusal :=
  if s.rst then .next (resetRegisters s)
  else if s.wasReset then clockEdge s
  else .next (unspecifyRegisters s)

/-- One step of the block: the input levels are captured, the registers take their values at the rising edge, and the decoder's wires
follow, reset or not (70_reset_and_hazards.md R180). -/
def cycle (s : State) : Host.Outcome State Fault Refusal :=
  andThen (registerEdge (sampleInputs s)) fun t => settleDecoder (driveDecFrame t)

/-- Place a FRAME word where the next step's decoder reads it: at the port `dec_frame`, driven by the environment. -/
def placeFrameWord (f : Raw) (s : State) : State :=
  { s with
    decFrame := f, wiring := .separate, wasReset := true
    stimulus := match s.stimulus with
      | [] => []
      | x :: rest => { x with decFrame := f } :: rest }

/-- Place a SYM word where the next step runs it: a falling edge about to be detected, `dt` microseconds after the one before. The
counter holds at most `DT_SAT`, and `dt_now` is at least 1 at a tick, so 0 is placed as 1 (log entry 15). -/
def placeSymWord (dt : Nat) (s : State) : State :=
  { s with
    sync2 := true, sync1 := false, dt := BitVec.ofNat 11 (min (dt - 1) Config.dtSat.toNat)
    presc := s.build.clkPerUs - 1, rst := false, wasReset := true
    stimulus := match s.stimulus with
      | [] => []
      | x :: rest => { x with rst := false } :: rest }

/-- The frame handed out by the step that led here, as a list of none or one. -/
def emitted (s : State) : List Raw := (frameOffered s).toList

/-- A run of detected edges at the event level: the end state and the frames emitted, in order (40_demodulator.md R70). -/
def eventRun : List Nat → State → Host.Outcome (State × List Raw) Fault Refusal
  | [], s => .next (s, [])
  | dt :: rest, s =>
    match eventStep dt s with
    | .next t =>
      match eventRun rest t with
      | .next (u, vs) => .next (u, emitted t ++ vs)
      | .fault r => .fault r
      | .refused r => .refused r
    | .fault r => .fault r
    | .refused r => .refused r

end Sys2Proof.Machine
end

