-- ==== Sys2Proof/Machine/Step.lean ====
section
/-! DEFINITION. The step, one rising clock edge and the decoder behind it, and where the host's words are placed. -/

namespace Sys2Proof.Machine

/-- One rising edge of `clk` (40_demodulator.md R73). -/
def step (s : State) : Host.Outcome State Fault Refusal := cycle s

/-- The state with a table word placed where the next step runs it; a word of neither format places nothing. -/
def State.withFetchWord (s : State) (nbits w : Nat) : State :=
  match tableWord nbits w with
  | .ok (.frame f) => placeFrameWord f s
  | .ok (.sym dt) => placeSymWord dt s
  | .error _ => s

end Sys2Proof.Machine
end

