-- ==== Sys2Proof/Machine/Environment.lean ====
section
/-!
DEFINITION. The ENVIRONMENT, transcribed from 42_downstream_reference.md: the event queue, the four channel states and the
dispatcher. It is no part of the block (00_scope.md section 3 leaves it out) and no field of `State`; the block's step does not
read it. It consumes what the block offers and the decoder's outputs.
-/

namespace Sys2Proof.Machine

/-- One sub-channel (42_downstream_reference.md R134). -/
structure SubChannel where
  actualStep : Int
  steps : Nat
  alternativeMode : Bool
deriving DecidableEq, Repr

/-- One channel (42_downstream_reference.md R134). -/
structure ChannelState where
  previousSignature : BitVec 8
  red : SubChannel
  blue : SubChannel
deriving DecidableEq, Repr

/-- Which of a channel's five handler slots have a handler; an absent handler is skipped (42_downstream_reference.md R139). -/
structure Handlers where
  generic : Bool
  redEffected : Bool
  blueEffected : Bool
  redChanged : Bool
  blueChanged : Bool
deriving DecidableEq, Repr

/-- The slots in their fixed order (42_downstream_reference.md R139). -/
inductive Slot where
  | generic
  | redEffected
  | blueEffected
  | redChanged
  | blueChanged
deriving DecidableEq, Repr

/-- One handler call: a handler receives the frame and the channel state (42_downstream_reference.md R139). -/
structure Call where
  slot : Slot
  frame : Raw
  channelState : ChannelState
deriving DecidableEq, Repr

/-- What the application's handlers answer while one frame is dispatched: whether the handler of this slot, called with this frame
and this channel state, marks the frame handled (42_downstream_reference.md R139, R140; log entry 24). It is an input of the
dispatcher, so that a claim is about every application. -/
abbrev Marks := Slot → Raw → ChannelState → Bool

/-- The environment: the queue, oldest first, its capacity where it is bounded, the four channel states and their handlers. -/
structure Env where
  queue : List Raw
  capacity : Option Nat
  channels : Vector ChannelState 4
  handlers : Vector Handlers 4
deriving DecidableEq, Repr

/-- The defaults at initialisation (42_downstream_reference.md R134). -/
def SubChannel.initial : SubChannel := { actualStep := 0, steps := 7, alternativeMode := false }

/-- The defaults at initialisation; the "unset" signature is the sentinel 0x00 (42_downstream_reference.md R135; log entry 23). -/
def ChannelState.initial : ChannelState :=
  { previousSignature := 0x00, red := SubChannel.initial, blue := SubChannel.initial }

/-- No handler registered. -/
def Handlers.none : Handlers :=
  { generic := false, redEffected := false, blueEffected := false, redChanged := false, blueChanged := false }

/-- The environment after the initialisation entry point: an unbounded queue, as in the reference design
(42_downstream_reference.md R133, R134, R182 of 70_reset_and_hazards.md). DESIGN CHOICE: no handler is registered at
initialisation, the spec says nothing of it (log entry 29), unsafe. -/
def Env.initial : Env :=
  { queue := [], capacity := Option.none, channels := Vector.replicate 4 ChannelState.initial
    handlers := Vector.replicate 4 Handlers.none }

/-! The event queue. -/

/-- `enqueue(frame)`: append at the tail; a full bounded queue drops the newest frame, this one (42_downstream_reference.md R131,
R133). -/
def Env.enqueue (v : Raw) (e : Env) : Env :=
  match e.capacity with
  | some n => if e.queue.length < n then { e with queue := e.queue ++ [v] } else e
  | Option.none => { e with queue := e.queue ++ [v] }

/-- `dequeue()`: remove and return the head, or say the queue is empty (42_downstream_reference.md R131). -/
def Env.dequeue (e : Env) : Option (Raw × Env) :=
  match e.queue with
  | [] => Option.none
  | v :: rest => some (v, { e with queue := rest })

/-- The consumer's act in one cycle: take the frame the block offers (42_downstream_reference.md R130, 70_reset_and_hazards.md
R183). -/
def Env.capture (s : State) (e : Env) : Env :=
  match frameOffered s with
  | some v => e.enqueue v
  | Option.none => e

/-- A pop and the block's push in the same cycle both take effect, also when the pop removes the last entry
(42_downstream_reference.md R132). DESIGN CHOICE, unsafe (log entry 30): on an empty queue the pop comes first, so it answers
none and the new frame stays queued. -/
def Env.popAndCapture (s : State) (e : Env) : Option Raw × Env :=
  match e.dequeue with
  | some (v, e') => (some v, e'.capture s)
  | Option.none => (Option.none, e.capture s)

/-! The dispatcher. -/

/-- The effect of an applicable command on `actual_step` (42_downstream_reference.md R138). -/
def SubChannel.apply (c : Command) (x : SubChannel) : SubChannel :=
  match c with
  | .stop => { x with actualStep := 0 }
  | .reset => { x with actualStep := 0 }
  | .forward => { x with actualStep := x.steps }
  | .backward => { x with actualStep := -x.steps }
  | .increase => { x with actualStep := min (x.actualStep + 1) x.steps }
  | .decrease => { x with actualStep := max (x.actualStep - 1) (-x.steps) }
  | .notApplicable => x

/-- Steps 1 and 2: the frame is accepted if its checksum is right and its signature is not its channel's stored one
(42_downstream_reference.md R136, R137). -/
def accepts (o : DecoderOut) (c : ChannelState) : Bool :=
  o.checksumOk && o.stateSignature != c.previousSignature

/-- Step 3: store the signature and apply both commands (42_downstream_reference.md R138). -/
def ChannelState.accept (o : DecoderOut) (c : ChannelState) : ChannelState :=
  { previousSignature := o.stateSignature, red := c.red.apply o.redCommand, blue := c.blue.apply o.blueCommand }

/-- Step 4, one slot after another: the handler of each of these slots is called, until one marks the frame handled
(42_downstream_reference.md R139, R140). -/
def dispatchSlots (m : Marks) (f : Raw) (c : ChannelState) : List Slot → List Call
  | [] => []
  | slot :: rest =>
    { slot := slot, frame := f, channelState := c } :: (if m slot f c then [] else dispatchSlots m f c rest)

/-- The slots in their fixed order that have a handler and whose condition holds, from the decoder's outputs and the channel before
and after step 3 (42_downstream_reference.md R139). -/
def slotsDue (o : DecoderOut) (before after : ChannelState) (h : Handlers) : List Slot :=
  ([(Slot.generic, h.generic),
    (.redEffected, h.redEffected && o.redEffected),
    (.blueEffected, h.blueEffected && o.blueEffected),
    (.redChanged, h.redChanged && before.red.actualStep != after.red.actualStep),
    (.blueChanged, h.blueChanged && before.blue.actualStep != after.blue.actualStep)].filter (·.2)).map (·.1)

/-- Steps 1 to 4 for one frame, on its channel `channel()`, `address` ignored (42_downstream_reference.md R136 to R140; log
entry 23). -/
def Env.dispatch (b : Build) (m : Marks) (v : Raw) (e : Env) : Env × List Call :=
  let o := decoderOut b (Frame.ofBits v)
  let before := e.channels[o.fldChannel.toNat]
  if accepts o before then
    let after := before.accept o
    ({ e with channels := e.channels.set o.fldChannel.toNat after },
      dispatchSlots m v after (slotsDue o before after e.handlers[o.fldChannel.toNat]))
  else (e, [])

/-- Dispatch a backlog in arrival order; `m k` are the handlers' answers for its frame number `k`, so that a handler may mark one
frame and not the next (42_downstream_reference.md R140, R146). -/
def dispatchAll (b : Build) (m : Nat → Marks) : List Raw → Env → Env × List Call
  | [], e => (e, [])
  | v :: rest, e =>
    let (e1, calls) := e.dispatch b (m 0) v
    let (e2, more) := dispatchAll b (fun k => m (k + 1)) rest e1
    (e2, calls ++ more)

/-- The poll entry point: the whole backlog is processed before it returns (42_downstream_reference.md R146). DESIGN CHOICE: the
backlog is the queue as it stands at the call; the spec does not say whether a frame enqueued while the drain runs is dispatched
by the same call (log entry 28), unsafe. -/
def Env.poll (b : Build) (m : Nat → Marks) (e : Env) : Env × List Call :=
  dispatchAll b m e.queue { e with queue := [] }

/-! Configuration and read-out. -/

/-- A step value `set_steps` admits (42_downstream_reference.md R141). -/
def stepsAdmitted (n : Nat) : Bool := 1 ≤ n && n ≤ 127

/-- `set_steps`: fails without any change outside the ranges; does not reset `actual_step` (42_downstream_reference.md R141). DESIGN
CHOICE: an `actual_step` outside the new range is left as it is too, the spec leaves that open (log entry 26), unsafe. -/
def Env.setSteps (channel stepsRed stepsBlue : Nat) (e : Env) : Option Env :=
  if h : channel < 4 then
    if stepsAdmitted stepsRed && stepsAdmitted stepsBlue then
      let c := e.channels[channel]
      some { e with
        channels := e.channels.set channel
          { c with red := { c.red with steps := stepsRed }, blue := { c.blue with steps := stepsBlue } } }
    else Option.none
  else Option.none

/-- `set_alternative_mode` (42_downstream_reference.md R142). DESIGN CHOICE: `red` and `blue` are the new mode values, where the rule's
word "toggles" could also mean the sub-channels to flip (log entry 27), unsafe. -/
def Env.setAlternativeMode (channel : Nat) (red blue : Bool) (e : Env) : Option Env :=
  if h : channel < 4 then
    let c := e.channels[channel]
    some { e with
      channels := e.channels.set channel
        { c with red := { c.red with alternativeMode := red }, blue := { c.blue with alternativeMode := blue } } }
  else Option.none

/-- `get_state_for_channel`: a read-only snapshot (42_downstream_reference.md R143). -/
def Env.stateForChannel (channel : Nat) (e : Env) : Option ChannelState := e.channels[channel]?

/-- `value()`: a linear re-scale computed on demand, of `[-steps, +steps]` to `[-255, 255]`, in alternative mode of `[0, steps]` to
`[0, 255]`: the ends go to the ends, and between them, and outside the range, the formula is open (42_downstream_reference.md R144;
log entry 25). -/
def SubChannel.value (x : SubChannel) : Int :=
  let free := Config.channelValue x.alternativeMode x.steps x.actualStep
  let low : Int := if x.alternativeMode then 0 else -x.steps
  let least : Int := if x.alternativeMode then 0 else -255
  if x.actualStep < low ∨ x.steps < x.actualStep then free
  else if x.actualStep = x.steps then 255
  else if x.actualStep = low then least
  else max least (min 255 free)

end Sys2Proof.Machine
end

