-- ==== Sys2Proof/Safety.lean ====
section
/-!
DEFINITION. The words claims are made in: the invariant of the block, quiet runs, bit symbols, and the registers two runs are
compared on.
-/

namespace Sys2Proof.Machine

/-- `PRESC` is in its range, 0 to `CLK_PER_US - 1`, once there was a reset (10_state.md R15, 70_reset_and_hazards.md R180). -/
abbrev State.prescInRange (s : State) : Prop := s.wasReset = true → s.presc < s.build.clkPerUs

/-- `PRESC` is a value of its width (10_state.md R15). -/
abbrev State.prescFits (s : State) : Prop := s.presc < 2 ^ s.build.prescWidth

/-- The decoder's wires show the outputs of the value at `dec_frame`, reset or not (41_frame_decoder.md R100,
70_reset_and_hazards.md R180). -/
abbrev State.decoderSettled (s : State) : Prop := s.out = decoderOut s.build (Frame.ofBits s.decFrame)

/-- In the direct wiring `dec_frame` shows `frame_data` (41_frame_decoder.md R100). -/
abbrev State.wired (s : State) : Prop := s.wiring = .direct → s.decFrame = s.raw

/-- In Sampling the bits not yet taken, `POS` down to 0, are 0 in `RAW`, once there was a reset (40_demodulator.md R81). -/
abbrev State.untakenBitsZero (s : State) : Prop :=
  s.wasReset = true → s.state = .sampling → s.raw.toNat % 2 ^ (s.pos.toNat + 1) = 0

/-- Once there was a reset, `frame_valid` is 1 only right after a completion: Idle, `POS` 15, the time counter just cleared, and no
falling edge pending (40_demodulator.md R83, R85, R75). -/
abbrev State.strobeAfterCompletion (s : State) : Prop :=
  s.wasReset = true → s.frameValid = true → s.state = .idle ∧ s.pos = 15 ∧ s.dt = 0 ∧ s.presc = 0 ∧ s.sync2 = false

/-- What holds of every state a run reaches, from reset or from before it. -/
structure State.Inv (s : State) : Prop where
  buildValid : s.build.valid
  prescFits : s.prescFits
  prescInRange : s.prescInRange
  decoderSettled : s.decoderSettled
  wired : s.wired
  untakenBitsZero : s.untakenBitsZero
  strobeAfterCompletion : s.strobeAfterCompletion

/-- `t` is reached from `s` in `n` rising clock edges without reset at none of which a falling edge is detected. -/
inductive QuietRun : Nat → State → State → Prop where
  | refl (s : State) : QuietRun 0 s s
  | step {n : Nat} {s t u : State} : QuietRun n s t → step t = .next u → (sampleInputs t).rst = false →
      fall t = false → QuietRun (n + 1) s u

/-- The times are those of bit symbols (30_encoding.md R46). -/
abbrev bitSymbol (dt : Nat) : Prop := classify dt = .low ∨ classify dt = .high

/-- `w[hi:lo]`, the unsigned value of the bits `hi` down to `lo` (00_scope.md section 5). -/
abbrev slice (w : Raw) (hi lo : Nat) : Nat := w.toNat / 2 ^ lo % 2 ^ (hi - lo + 1)

/-- The decoder's outputs written over the bits of the word, from the `result` column of spec/opcode_table.json and the pseudocode of
41_frame_decoder.md R101 to R117: a second transcription, in numbers, that shares no definition with `decoderOut`. The 2-bit
codes and the pwm data values are the spec's, PRESUMED from general knowledge (log entries 9 and 10). -/
def outputsOfBits (b : Build) (w : Raw) : DecoderOut :=
  let escape := slice w 14 14
  let mode := slice w 10 8
  let data := slice w 7 4
  let standard := escape = 0 ∧ mode = 1
  let pwm := escape = 0 ∧ (mode = 4 ∨ mode = 5 ∨ mode = 7)
  let stdOf (c : Nat) : Command :=
    if c = 0 then .stop else if c = 1 then .forward else if c = 2 then .backward else b.stdCode3.toCommand
  let pwmOf : Command :=
    if data = 4 then .increase else if data = 5 then .decrease else if data = 8 then .reset else b.pwmOther
  { fldToggle := BitVec.ofNat 1 (slice w 15 15)
    fldEscape := BitVec.ofNat 1 (slice w 14 14)
    fldChannel := BitVec.ofNat 2 (slice w 13 12)
    fldAddress := BitVec.ofNat 1 (slice w 11 11)
    fldMode := BitVec.ofNat 3 (slice w 10 8)
    fldData := BitVec.ofNat 4 (slice w 7 4)
    fldChecksum := BitVec.ofNat 4 (slice w 3 0)
    checksumOk := 15 ^^^ slice w 15 12 ^^^ slice w 11 8 ^^^ slice w 7 4 = slice w 3 0
    isStandardRc := standard
    isPwmRc := pwm
    isExtendedMode := escape = 0 ∧ mode = 0
    isComboPwmMode := escape = 1
    singleOutputPort := BitVec.ofNat 1 (slice w 8 8)
    redCommand := if standard then stdOf (slice w 5 4) else if pwm ∧ slice w 8 8 = 0 then pwmOf else .notApplicable
    blueCommand := if standard then stdOf (slice w 7 6) else if pwm ∧ slice w 8 8 = 1 then pwmOf else .notApplicable
    redEffected := standard ∨ slice w 8 8 = 0
    blueEffected := standard ∨ slice w 8 8 = 1
    stateSignature := BitVec.ofNat 8 (data * 16 ||| mode * 8 ||| slice w 15 15) }

/-- A sub-channel's position lies in its range (42_downstream_reference.md R134). -/
abbrev SubChannel.inRange (x : SubChannel) : Prop := -x.steps ≤ x.actualStep ∧ x.actualStep ≤ x.steps

/-- What command `c` does to a sub-channel `x`, giving `y`: the table of 42_downstream_reference.md R138, each command on its own; the
magnitude and the mode stay. -/
structure SubChannel.MovesBy (c : Command) (x y : SubChannel) : Prop where
  steps : y.steps = x.steps
  alternativeMode : y.alternativeMode = x.alternativeMode
  zero : c = .stop ∨ c = .reset → y.actualStep = 0
  forward : c = .forward → y.actualStep = x.steps
  backward : c = .backward → y.actualStep = -x.steps
  increase : c = .increase → y.actualStep = if x.actualStep + 1 ≤ x.steps then x.actualStep + 1 else (x.steps : Int)
  decrease : c = .decrease → y.actualStep = if -x.steps ≤ x.actualStep - 1 then x.actualStep - 1 else -(x.steps : Int)
  notApplicable : c = .notApplicable → y.actualStep = x.actualStep

/-- The checksum of a word is right, over its bits (41_frame_decoder.md R103). -/
abbrev checksumRight (w : Raw) : Prop := 15 ^^^ slice w 15 12 ^^^ slice w 11 8 ^^^ slice w 7 4 = slice w 3 0

/-- Every channel's positions lie in their ranges. -/
abbrev Env.inRange (e : Env) : Prop := ∀ c ∈ e.channels.toList, c.red.inRange ∧ c.blue.inRange

/-- The demodulator's registers and nothing else. -/
def State.registers (s : State) : Registers :=
  { state := s.state, pos := s.pos, raw := s.raw, dt := s.dt, presc := s.presc, sync0 := s.sync0, sync1 := s.sync1
    sync2 := s.sync2, frameValid := s.frameValid }

end Sys2Proof.Machine
end

