-- ==== Sys2Proof/Certificates/Slice0/Obligations.lean ====
section
/-!
DEFINITION. The statements for the provers. Times are in microseconds. "The model's choice" names a log entry of
notes/assumptions; "the spec's inference" a clause the spec marks [derived].
-/

open Sys2Proof Sys2Proof.Machine

/-! The classifier and the eight symbol rows. -/

/-- 30_encoding.md R46: the five windows, disjoint and covering every time. -/
def Obligations.ClassifyPartitionsTime : Prop :=
  ∀ dt : Nat,
    (classify dt = .short ↔ dt ≤ 316) ∧
    (classify dt = .low ↔ 316 < dt ∧ dt < 526) ∧
    (classify dt = .high ↔ 526 ≤ dt ∧ dt < 947) ∧
    (classify dt = .ss ↔ 947 ≤ dt ∧ dt < 1560) ∧
    (classify dt = .long ↔ 1560 ≤ dt)

/-- 40_demodulator.md R77: `SHORT` and `LONG` complete in every state, with `STATE <- Idle`; `POS`, `RAW` and everything else hold. -/
def Obligations.TimingErrorForcesIdle : Prop :=
  ∀ (dt : Nat) (s : State),
    (dt ≤ 316 → exec (.short dt) s = .next { s with state := .idle }) ∧
    (1560 ≤ dt → exec (.long dt) s = .next { s with state := .idle })

/-- 40_demodulator.md R78, the spec's inference and decision D7: `LOW` and `HIGH` in Idle complete and change nothing. -/
def Obligations.BitSymbolInIdleChangesNothing : Prop :=
  ∀ (dt : Nat) (s : State), s.state = .idle →
    (317 ≤ dt → dt ≤ 525 → exec (.lowIdle dt) s = .next s) ∧
    (526 ≤ dt → dt ≤ 946 → exec (.highIdle dt) s = .next s)

/-- 40_demodulator.md R79: `SS` in Idle completes and opens a frame; everything else holds. -/
def Obligations.StartPulseOpensFrame : Prop :=
  ∀ (dt : Nat) (s : State), s.state = .idle → 947 ≤ dt → dt ≤ 1559 →
    exec (.ssIdle dt) s = .next { s with raw := 0x0000, pos := 15, state := .sampling }

/-- 40_demodulator.md R80: `SS` in Sampling, at every `POS`, completes, restarts the frame and stays in Sampling, no frame emitted. -/
def Obligations.EarlyStartRestartsFrame : Prop :=
  ∀ (dt : Nat) (s : State), s.state = .sampling → 947 ≤ dt → dt ≤ 1559 →
    exec (.ssSampling dt) s = .next { s with raw := 0x0000, pos := 15 }

/-- 40_demodulator.md R81, R83: `HIGH` in Sampling completes: bit `POS` of `RAW` is set and no other bit changes; before the sixteenth
bit `POS` goes down by one, at the sixteenth the completed value is emitted, `STATE <- Idle`, `POS <- 15`. -/
def Obligations.HighSymbolTakesOneBit : Prop :=
  ∀ (dt : Nat) (s : State), s.state = .sampling → 526 ≤ dt → dt ≤ 946 →
    ∃ v : Raw, (∀ i < 16, v.getLsbD i = (decide (i = s.pos.toNat) || s.raw.getLsbD i)) ∧
      (s.pos.toNat ≠ 0 →
        exec (.highSampling dt) s = .next { s with raw := v, pos := BitVec.ofNat 4 (s.pos.toNat - 1) }) ∧
      (s.pos.toNat = 0 →
        exec (.highSampling dt) s = .next { s with raw := v, frameValid := true, state := .idle, pos := 15 })

/-- 40_demodulator.md R82, R83: `LOW` in Sampling completes: `RAW` is unchanged; the position step as for `HIGH`. -/
def Obligations.LowSymbolTakesZeroBit : Prop :=
  ∀ (dt : Nat) (s : State), s.state = .sampling → 317 ≤ dt → dt ≤ 525 →
    (s.pos.toNat ≠ 0 →
      exec (.lowSampling dt) s = .next { s with pos := BitVec.ofNat 4 (s.pos.toNat - 1) }) ∧
    (s.pos.toNat = 0 →
      exec (.lowSampling dt) s = .next { s with frameValid := true, state := .idle, pos := 15 })

/-- The frame of the eight symbol rows, whatever their operand and whether or not their guard holds: only `STATE`, `POS`, `RAW` and
`FRAME_VALID` can change; `RAW` only by `SS` and by `HIGH` in Sampling; `POS` only by `SS` and by a bit symbol in Sampling; a row but
the bit symbols in Sampling leaves `FRAME_VALID`. That a row outside its guard writes nothing is the model's choice (log entry
13). -/
def Obligations.SymbolRowFrame : Prop :=
  ∀ (dt : Nat) (s t : State) (i : Instr),
    i ∈ [Instr.short dt, .long dt, .lowIdle dt, .highIdle dt, .ssIdle dt, .ssSampling dt, .highSampling dt,
      .lowSampling dt] →
    exec i s = .next t →
      t = { s with state := t.state, pos := t.pos, raw := t.raw, frameValid := t.frameValid } ∧
      (i ∈ [Instr.short dt, .long dt, .lowIdle dt, .highIdle dt, .lowSampling dt] → t.raw = s.raw) ∧
      (i ∈ [Instr.short dt, .long dt, .lowIdle dt, .highIdle dt] → t.pos = s.pos) ∧
      (i ∈ [Instr.lowIdle dt, .highIdle dt, .ssSampling dt] → t.state = s.state) ∧
      (i ∉ [Instr.highSampling dt, .lowSampling dt] → t.frameValid = s.frameValid)

/-- 40_demodulator.md R84, the complete table, the spec's inference: every event completes, its effect on `STATE`, `POS`, `RAW` and the
emission is the table's, and it changes nothing else. That the strobe is cleared first and set again by an emission is the model's
reading (log entry 11). -/
def Obligations.EventTransitionTable : Prop :=
  ∀ (dt : Nat) (s : State), ∃ t, eventStep dt s = .next t ∧
    t = { s with state := t.state, pos := t.pos, raw := t.raw, frameValid := t.frameValid } ∧
    (t.state, t.pos, t.raw, t.frameValid) =
      if dt ≤ 316 ∨ 1560 ≤ dt then (DemodState.idle, s.pos, s.raw, false)
      else if 947 ≤ dt then (DemodState.sampling, 15, 0, false)
      else if s.state = .idle then (DemodState.idle, s.pos, s.raw, false)
      else
        let v := if 526 ≤ dt then s.raw ||| (1#16 <<< s.pos.toNat) else s.raw
        if s.pos = 0 then (DemodState.idle, 15, v, true) else (DemodState.sampling, s.pos - 1, v, false)

/-- 70_reset_and_hazards.md R186, the spec's inference: an `SS` event leads to (Sampling, 15, 0) from every state, no frame emitted. -/
def Obligations.StartPulseSynchronisesFromAnyState : Prop :=
  ∀ (dt : Nat) (s : State), 947 ≤ dt → dt ≤ 1559 →
    eventStep dt s = .next { s with state := .sampling, pos := 15, raw := 0x0000, frameValid := false }

/-- 40_demodulator.md section 1.4 and 70_reset_and_hazards.md section 3, the spec's inferences: after a start pulse, from any state,
sixteen bit symbols emit exactly one frame, whose bit 15 is the first symbol and bit 0 the sixteenth, 1 for `HIGH` and 0 for `LOW`. -/
def Obligations.SixteenBitSymbolsAssembleOneFrame : Prop :=
  ∀ (s : State) (d0 : Nat) (ds : List Nat), 947 ≤ d0 → d0 ≤ 1559 → ds.length = 16 →
    (∀ d ∈ ds, 317 ≤ d ∧ d ≤ 946) →
    ∃ t, eventRun (d0 :: ds) s = .next (t, [t.raw]) ∧ t.state = .idle ∧ t.pos = 15 ∧
      ∀ k < 16, t.raw.getLsbD (15 - k) = decide (526 ≤ ds.getD k 0)

/-- 40_demodulator.md R86, the spec's inference: a run of events that starts in Idle and ends with an emission ends with an `SS` event
and sixteen bit symbols, and the frame is those symbols. -/
def Obligations.FrameNeedsStartPulseAndSixteenBits : Prop :=
  ∀ (pre : List Nat) (d : Nat) (s m t : State) (vs : List Raw), s.state = .idle →
    eventRun pre s = .next (m, vs) → eventStep d m = .next t → t.frameValid = true →
    ∃ (p : List Nat) (d0 : Nat) (bs : List Nat), pre = p ++ d0 :: bs ∧ bs.length = 15 ∧
      947 ≤ d0 ∧ d0 ≤ 1559 ∧ (∀ b ∈ bs ++ [d], 317 ≤ b ∧ b ≤ 946) ∧
      ∀ k < 16, t.raw.getLsbD (15 - k) = decide (526 ≤ (bs ++ [d]).getD k 0)

/-- 70_reset_and_hazards.md R188, the spec's inference: between an emission, which leaves the machine in Idle, and the next one at
least 6019 microseconds of inter-edge time pass. -/
def Obligations.EmissionsAreSpaced : Prop :=
  ∀ (e : Nat) (r s : State) (pre : List Nat) (d : Nat) (m t : State) (vs : List Raw),
    eventStep e r = .next s → s.frameValid = true →
    eventRun pre s = .next (m, vs) → eventStep d m = .next t → t.frameValid = true →
    6019 ≤ (pre ++ [d]).sum

/-! The clock edge. -/

/-- 10_state.md R23: a rising edge with `rst == 1` completes from every state, the one before the first reset too, and puts every
register at its reset value. -/
def Obligations.ResetEdgeTakesResetValues : Prop :=
  ∀ s : State, (sampleInputs s).rst = true →
    ∃ t, step s = .next t ∧ t.state = .idle ∧ t.pos = 15 ∧ t.raw = 0x0000 ∧ t.dt = 2047 ∧ t.presc = 0 ∧
      t.sync0 = false ∧ t.sync1 = false ∧ t.sync2 = false ∧ t.frameValid = false

/-- 10_state.md section 5: the registers of `State.reset`. -/
def Obligations.ResetStateHasTableValues : Prop :=
  State.reset.state = .idle ∧ State.reset.pos = 15 ∧ State.reset.raw = 0x0000 ∧ State.reset.dt = 2047 ∧
    State.reset.presc = 0 ∧ State.reset.sync0 = false ∧ State.reset.sync1 = false ∧ State.reset.sync2 = false ∧
    State.reset.frameValid = false ∧ fall State.reset = false

/-- 70_reset_and_hazards.md section 1: before the first reset an edge without `rst` completes with all eighteen decoder outputs the
functions of `dec_frame` that R101 to R117 write; every register holds a free value, `PRESC` one of its width, so nothing else can
be said of it, and the edge is no reset. The form of the free values is the model's choice (log entry 8). -/
def Obligations.OnlyTheDecoderHasMeaningBeforeFirstReset : Prop :=
  ∀ s : State, s.wasReset = false → (sampleInputs s).rst = false →
    ∃ t, step s = .next t ∧ t.out = outputsOfBits t.build t.decFrame ∧
      (s.wiring = .separate → t.decFrame = (sampleInputs s).decFrame) ∧
      t.registers = { Config.unspecifiedRegisters s.draws with
        presc := (Config.unspecifiedRegisters s.draws).presc % 2 ^ s.build.prescWidth } ∧
      t.draws = s.draws + 1 ∧ t.wasReset = false

/-- 40_demodulator.md R76: at a detected edge the step is `exec` of the decoded symbol row at the sampled state with the strobe cleared,
then the time counter cleared and the synchroniser shifted from the values before the edge, then the decoder settled. That the
strobe is cleared before the row is the model's reading (log entry 11); driving `dec_frame` and settling the decoder after it is its
choice (log entries 3 and 7). -/
def Obligations.StepRunsTheDetectedSymbolRow : Prop :=
  ∀ s : State, s.wasReset = true → (sampleInputs s).rst = false → s.sync2 = true → s.sync1 = false →
    ∃ t, exec (decodeSym s.state (dtNow s).toNat) { sampleInputs s with frameValid := false } = .next t ∧
      step s = settleDecoder (driveDecFrame
        { t with dt := 0, presc := 0, sync0 := (sampleInputs s).irIn, sync1 := s.sync0, sync2 := s.sync1 })

/-- 41_frame_decoder.md section 1: every step, the ones before the first reset too, runs, in order, every row that the value at
`dec_frame` is, on the state `x` that the clock edge left, with the wires still those before the step, once `dec_frame` is driven;
these rows change no register. Running a frame's rows in the table's order at every step is the model's choice (log entry 3), and
so are that the wiring drives `dec_frame` before them (log entry 7), in the separate wiring with the value sampled, in the direct
one with the RAW of `x`, and that the registers take free values before the first reset (log entry 8). -/
def Obligations.StepRunsEveryRowOfTheFrame : Prop :=
  ∀ s u : State, step s = .next u → ∃ x,
    (((sampleInputs s).rst = true ∧ x = resetRegisters (sampleInputs s)) ∨
      ((sampleInputs s).rst = false ∧ s.wasReset = true ∧ clockEdge (sampleInputs s) = .next x) ∨
      ((sampleInputs s).rst = false ∧ s.wasReset = false ∧ x = unspecifyRegisters (sampleInputs s))) ∧
    x.out = s.out ∧ runRows (decodeRows (Frame.ofBits u.decFrame)) (driveDecFrame x) = .next u ∧
    u.registers = x.registers ∧
    (s.wiring = .separate → u.decFrame = (sampleInputs s).decFrame) ∧ (s.wiring = .direct → u.decFrame = x.raw)

/-- 40_demodulator.md R76, without a detected edge: `STATE`, `POS` and `RAW` hold and `FRAME_VALID <- 0`. -/
def Obligations.QuietEdgeHoldsTheDemodulator : Prop :=
  ∀ s : State, s.wasReset = true → (sampleInputs s).rst = false → (s.sync2 = false ∨ s.sync1 = true) →
    ∃ u, step s = .next u ∧ u.state = s.state ∧ u.pos = s.pos ∧ u.raw = s.raw ∧ u.frameValid = false

/-- 40_demodulator.md R75, once there was a reset: the update of `DT` and `PRESC`; a saturated `DT` stays until the next detected edge. -/
def Obligations.TimeCounterUpdate : Prop :=
  ∀ s u : State, s.wasReset = true → (sampleInputs s).rst = false → step s = .next u →
    ((s.sync2 = true ∧ s.sync1 = false) → u.dt = 0 ∧ u.presc = 0) ∧
    ((s.sync2 = false ∨ s.sync1 = true) → s.presc = s.build.clkPerUs - 1 →
      u.dt.toNat = min (s.dt.toNat + 1) 2047 ∧ u.presc = 0) ∧
    ((s.sync2 = false ∨ s.sync1 = true) → s.presc ≠ s.build.clkPerUs - 1 →
      u.dt = s.dt ∧ u.presc = s.presc + 1)

/-- 10_state.md R16, once there was a reset: the synchroniser shifts at every edge without `rst`, `fall` is `SYNC2 and not SYNC1`, and
it is 1 for one cycle. -/
def Obligations.SynchroniserShifts : Prop :=
  ∀ s u : State, s.wasReset = true → (sampleInputs s).rst = false → step s = .next u →
    u.sync0 = (sampleInputs s).irIn ∧ u.sync1 = s.sync0 ∧ u.sync2 = s.sync1 ∧
    (fall s = true ↔ s.sync2 = true ∧ s.sync1 = false) ∧ (fall s = true → fall u = false)

/-- 40_demodulator.md R74, the spec's inference: `N` rising edges after a processed event, the last one included, the measured time is
`min(floor(N / CLK_PER_US), DT_SAT)`, for every `CLK_PER_US`. -/
def Obligations.MeasuredTimeIsWholeMicroseconds : Prop :=
  ∀ (n : Nat) (s t : State), s.wasReset = true → 0 < s.build.clkPerUs → s.dt = 0 → s.presc = 0 → QuietRun n s t →
    (dtNow t).toNat = min ((n + 1) / s.build.clkPerUs) 2047

/-- 70_reset_and_hazards.md R181, the spec's decision D6: with `DT` at its reset value, however long no edge comes, the next event is
`LONG` with `dt == 2047`. -/
def Obligations.FirstEdgeAfterResetIsLong : Prop :=
  ∀ (n : Nat) (s t : State), s.wasReset = true → s.dt = 2047 → QuietRun n s t → decodeSym t.state (dtNow t).toNat = .long 2047

/-- 10_state.md R17: `FRAME_VALID` drives `frame_valid`; after a step at a reset or after one it is 1 exactly if that step completed a
frame, and it is 0 after the step that follows. -/
def Obligations.FrameValidForOneCycle : Prop :=
  ∀ s t : State, (s.wasReset = true ∨ (sampleInputs s).rst = true) → step s = .next t →
    frameValidPort t = t.frameValid ∧
    (t.frameValid = true ↔ (sampleInputs s).rst = false ∧ fall s = true ∧ s.state = .sampling ∧ s.pos = 0 ∧
      bitSymbol (dtNow s).toNat) ∧
    (t.frameValid = true → ∀ u, step t = .next u → u.frameValid = false)

/-- 20_memory.md section 4 and 40_demodulator.md section 2, once there was a reset: the value offered after a step is the completed
frame, all sixteen bits, the bit of this same event included. -/
def Obligations.OfferedFrameIsTheCompletedValue : Prop :=
  ∀ (s t : State) (v : Raw), (s.wasReset = true ∨ (sampleInputs s).rst = true) → step s = .next t →
    frameOffered t = some v →
    v = frameDataPort t ∧ v = t.raw ∧
    v = if classify (dtNow s).toNat = .high then s.raw ||| 1#16 else s.raw

/-- 70_reset_and_hazards.md R192, 40_demodulator.md R76, the spec's inference, once there was a reset: an edge is detected exactly two
clock edges after `ir_in` is first sampled 0, having been sampled 1 at the edge before. -/
def Obligations.DetectionLatencyIsTwoCycles : Prop :=
  ∀ s t u : State, s.wasReset = true → step s = .next t → step t = .next u → (sampleInputs s).rst = false →
    (sampleInputs t).rst = false → fall u = (s.sync0 && !(sampleInputs s).irIn)

/-- 40_demodulator.md R84, 41_frame_decoder.md R100: every step answers a next state, before the first reset too, and a reset is behind
it exactly if one was before or `rst` was captured 1. The field that remembers the reset is the model's choice (log entry 8). -/
def Obligations.EveryStepCompletes : Prop :=
  ∀ s : State, ∃ t, step s = .next t ∧
    (t.wasReset = true ↔ s.wasReset = true ∨ (sampleInputs s).rst = true)

/-- Every step keeps the invariant: a positive `CLK_PER_US`, `PRESC` of its width, the settled decoder and the wiring, before the first
reset too; and from it on the prescaler's range, the untaken bits 0, the strobe only after a completion. -/
def Obligations.StepKeepsInvariant : Prop :=
  ∀ s t : State, s.Inv → step s = .next t → t.Inv

/-- The invariant holds right after reset. -/
def Obligations.ResetMeetsInvariant : Prop := State.reset.Inv

/-- 20_memory.md section 5, 10_state.md section 3: no instruction and no step changes a parameter of the block. That its wiring never
changes either is the model's choice (log entry 7). -/
def Obligations.ParametersNeverChange : Prop :=
  (∀ (i : Instr) (s t : State), exec i s = .next t → t.build = s.build ∧ t.wiring = s.wiring) ∧
  (∀ s t : State, step s = .next t → t.build = s.build ∧ t.wiring = s.wiring)

/-- 10_state.md R15: in a state that meets the invariant `PRESC` is at most `CLK_PER_US - 1` once there was a reset, so 0 with
`CLK_PER_US == 1`, and its register is wide enough for that range and never holds more than its width. -/
def Obligations.PrescalerFitsItsWidth : Prop :=
  ∀ s : State, s.Inv → s.presc < 2 ^ s.build.prescWidth ∧ s.build.clkPerUs - 1 < 2 ^ s.build.prescWidth ∧
    (s.wasReset = true → s.presc ≤ s.build.clkPerUs - 1) ∧
    (s.wasReset = true → s.build.clkPerUs = 1 → s.presc = 0)

/-! The frame decoder. `w` is the sixteen bits of the frame. -/

/-- 41_frame_decoder.md R101: `FIELDS` completes with the seven field outputs; everything else holds. -/
def Obligations.FieldOutputs : Prop :=
  ∀ (w : Raw) (s : State),
    exec (.fields (Frame.ofBits w)) s = .next { s with
      out := { s.out with
        fldToggle := BitVec.ofNat 1 (slice w 15 15), fldEscape := BitVec.ofNat 1 (slice w 14 14)
        fldChannel := BitVec.ofNat 2 (slice w 13 12), fldAddress := BitVec.ofNat 1 (slice w 11 11)
        fldMode := BitVec.ofNat 3 (slice w 10 8), fldData := BitVec.ofNat 4 (slice w 7 4)
        fldChecksum := BitVec.ofNat 4 (slice w 3 0) } }

/-- 41_frame_decoder.md R103: `CHECKSUM_OK` completes: 1 exactly if the fourth nibble is `0xF` exclusive-or the other three. -/
def Obligations.ChecksumOutput : Prop :=
  ∀ (w : Raw) (s : State),
    exec (.checksumOk (Frame.ofBits w)) s = .next { s with
      out := { s.out with
        checksumOk := decide (15 ^^^ slice w 15 12 ^^^ slice w 11 8 ^^^ slice w 7 4 = slice w 3 0) } }

/-- 41_frame_decoder.md R103, the spec's inference: for every upper twelve bits exactly one checksum is accepted, and a change of any
single bit of a valid frame makes it invalid. -/
def Obligations.ChecksumDetectsEverySingleBitError : Prop :=
  (∀ f : Frame, ∃ k : BitVec 4, ∀ k' : BitVec 4, checksumOk { f with checksum := k' } = true ↔ k' = k) ∧
  (∀ w : Raw, ∀ i < 16, checksumOk (Frame.ofBits w) = true →
    checksumOk (Frame.ofBits (w ^^^ (1#16 <<< i))) = false)

/-- 41_frame_decoder.md R104, R110: `CHANNEL` and `SINGLE_OUTPUT_PORT` complete for every frame; everything else holds. -/
def Obligations.ChannelAndPortOutputs : Prop :=
  ∀ (w : Raw) (s : State),
    exec (.channel (Frame.ofBits w)) s = .next { s with
      out := { s.out with fldChannel := BitVec.ofNat 2 (slice w 13 12) } } ∧
    exec (.singleOutputPort (Frame.ofBits w)) s = .next { s with
      out := { s.out with singleOutputPort := BitVec.ofNat 1 (slice w 8 8) } }

/-- 41_frame_decoder.md R105 to R109: each of the nine class rows completes with its class on the four class outputs, and everything
else holds. -/
def Obligations.ClassRowsDriveTheirClass : Prop :=
  ∀ (h : Header) (m : BitVec 3) (d : BitVec 4) (s : State),
    exec (.extendedMode h d) s = .next { s with
      out := { s.out with isExtendedMode := true, isStandardRc := false, isPwmRc := false, isComboPwmMode := false } } ∧
    exec (.standardRc h d) s = .next { s with
      out := { s.out with isExtendedMode := false, isStandardRc := true, isPwmRc := false, isComboPwmMode := false } } ∧
    (∀ i ∈ [Instr.noclassM2 h d, .noclassM3 h d, .noclassM6 h d], exec i s = .next { s with
      out := { s.out with isExtendedMode := false, isStandardRc := false, isPwmRc := false, isComboPwmMode := false } }) ∧
    (∀ i ∈ [Instr.pwmRcM4 h d, .pwmRcM5 h d, .pwmRcM7 h d], exec i s = .next { s with
      out := { s.out with isExtendedMode := false, isStandardRc := false, isPwmRc := true, isComboPwmMode := false } }) ∧
    exec (.comboPwmMode h m d) s = .next { s with
      out := { s.out with isExtendedMode := false, isStandardRc := false, isPwmRc := false, isComboPwmMode := true } }

/-- 41_frame_decoder.md R105 to R108: the class row a frame decodes to drives the four class outputs by the four predicates, mode 6
excluded from pwm_rc. -/
def Obligations.ClassOfEveryFrame : Prop :=
  ∀ (w : Raw) (s : State), ∃ t, exec (classRow (Frame.ofBits w)) s = .next t ∧
    (t.out.isExtendedMode = true ↔ slice w 14 14 = 0 ∧ slice w 10 8 = 0) ∧
    (t.out.isStandardRc = true ↔ slice w 14 14 = 0 ∧ slice w 10 8 = 1) ∧
    (t.out.isComboPwmMode = true ↔ slice w 14 14 = 1) ∧
    (t.out.isPwmRc = true ↔ slice w 14 14 = 0 ∧ slice w 10 10 = 1 ∧ slice w 10 8 ≠ 6)

/-- 41_frame_decoder.md R111, R117, the spec's inferences: of the four classes at most one, none of them for escape 0 and mode 2, 3 or 6;
exactly one effected flag unless the frame is standard_rc, then both. -/
def Obligations.ClassesExcludeEachOther : Prop :=
  ∀ f : Frame,
    ([isStandardRc f, isPwmRc f, isExtendedMode f, isComboPwmMode f].count true ≤ 1) ∧
    ([isStandardRc f, isPwmRc f, isExtendedMode f, isComboPwmMode f].count true = 0 ↔
      f.escape = 0 ∧ (f.mode = 2 ∨ f.mode = 3 ∨ f.mode = 6)) ∧
    (isStandardRc f = true → redEffected f = true ∧ blueEffected f = true) ∧
    (isStandardRc f = false → redEffected f = !blueEffected f)

/-- 41_frame_decoder.md R112: the four `STD.RED` rows complete with their command on `red_command`; everything else holds. -/
def Obligations.StdRedRowsDriveRed : Prop :=
  ∀ (h : Header) (b : BitVec 2) (s : State),
    exec (.stdRedStop h b) s = .next { s with out := { s.out with redCommand := .stop } } ∧
    exec (.stdRedFwd h b) s = .next { s with out := { s.out with redCommand := .forward } } ∧
    exec (.stdRedBwd h b) s = .next { s with out := { s.out with redCommand := .backward } } ∧
    exec (.stdRedCode3 h b) s = .next { s with out := { s.out with redCommand := s.build.stdCode3.toCommand } }

/-- 41_frame_decoder.md R113: the four `STD.BLUE` rows complete with their command on `blue_command`; everything else holds. -/
def Obligations.StdBlueRowsDriveBlue : Prop :=
  ∀ (h : Header) (r : BitVec 2) (s : State),
    exec (.stdBlueStop h r) s = .next { s with out := { s.out with blueCommand := .stop } } ∧
    exec (.stdBlueFwd h r) s = .next { s with out := { s.out with blueCommand := .forward } } ∧
    exec (.stdBlueBwd h r) s = .next { s with out := { s.out with blueCommand := .backward } } ∧
    exec (.stdBlueCode3 h r) s = .next { s with out := { s.out with blueCommand := s.build.stdCode3.toCommand } }

/-- 41_frame_decoder.md R112: the four `PWM.RED` rows complete with their command on `red_command` and NotApplicable on `blue_command`;
everything else holds. The other row's command is the open parameter, whatever it is. -/
def Obligations.PwmRedRowsDriveRed : Prop :=
  ∀ (h : Header) (d : BitVec 4) (s : State),
    exec (.pwmRedIncM4 h) s = .next { s with
      out := { s.out with redCommand := .increase, blueCommand := .notApplicable } } ∧
    exec (.pwmRedDecM4 h) s = .next { s with
      out := { s.out with redCommand := .decrease, blueCommand := .notApplicable } } ∧
    exec (.pwmRedResetM4 h) s = .next { s with
      out := { s.out with redCommand := .reset, blueCommand := .notApplicable } } ∧
    exec (.pwmRedOtherM4 h d) s = .next { s with
      out := { s.out with redCommand := s.build.pwmOther, blueCommand := .notApplicable } }

/-- 41_frame_decoder.md R113: the eight `PWM.BLUE` rows complete with their command on `blue_command` and NotApplicable on
`red_command`; everything else holds. -/
def Obligations.PwmBlueRowsDriveBlue : Prop :=
  ∀ (h : Header) (d : BitVec 4) (s : State),
    (∀ i ∈ [Instr.pwmBlueIncM5 h, .pwmBlueIncM7 h], exec i s = .next { s with
      out := { s.out with redCommand := .notApplicable, blueCommand := .increase } }) ∧
    (∀ i ∈ [Instr.pwmBlueDecM5 h, .pwmBlueDecM7 h], exec i s = .next { s with
      out := { s.out with redCommand := .notApplicable, blueCommand := .decrease } }) ∧
    (∀ i ∈ [Instr.pwmBlueResetM5 h, .pwmBlueResetM7 h], exec i s = .next { s with
      out := { s.out with redCommand := .notApplicable, blueCommand := .reset } }) ∧
    (∀ i ∈ [Instr.pwmBlueOtherM5 h d, .pwmBlueOtherM7 h d], exec i s = .next { s with
      out := { s.out with redCommand := .notApplicable, blueCommand := s.build.pwmOther } })

/-- 41_frame_decoder.md R112: `RED_COMMAND` completes for every frame with `std_cmd(data[1:0])`, `pwm_cmd(data)` or NotApplicable;
everything else holds. The bit positions and code values are PRESUMED by the spec (log entries 9 and 10). -/
def Obligations.RedCommandOutput : Prop :=
  ∀ (w : Raw) (s : State),
    exec (.redCommand (Frame.ofBits w)) s = .next { s with
      out := { s.out with redCommand := (outputsOfBits s.build w).redCommand } }

/-- 41_frame_decoder.md R113: `BLUE_COMMAND` completes for every frame with `std_cmd(data[3:2])`, `pwm_cmd(data)` or NotApplicable;
everything else holds. The bit positions and code values are PRESUMED by the spec (log entries 9 and 10). -/
def Obligations.BlueCommandOutput : Prop :=
  ∀ (w : Raw) (s : State),
    exec (.blueCommand (Frame.ofBits w)) s = .next { s with
      out := { s.out with blueCommand := (outputsOfBits s.build w).blueCommand } }

/-- 41_frame_decoder.md section 5: a standard_rc frame gives both sub-channels a command of Stop, Forward, Backward; a pwm_rc frame gives
the selected one Increase, Decrease, Reset or the open parameter and the other NotApplicable; any other frame gives NotApplicable to
both. -/
def Obligations.CommandsByClass : Prop :=
  ∀ (b : Build) (f : Frame),
    (isStandardRc f = true →
      redCommand b f ∈ [Command.stop, .forward, .backward] ∧ blueCommand b f ∈ [Command.stop, .forward, .backward]) ∧
    (isPwmRc f = true → f.mode = 4 →
      redCommand b f ∈ [Command.increase, .decrease, .reset, b.pwmOther] ∧ blueCommand b f = .notApplicable) ∧
    (isPwmRc f = true → f.mode ≠ 4 →
      redCommand b f = .notApplicable ∧ blueCommand b f ∈ [Command.increase, .decrease, .reset, b.pwmOther]) ∧
    (isStandardRc f = false → isPwmRc f = false →
      redCommand b f = .notApplicable ∧ blueCommand b f = .notApplicable)

/-- 41_frame_decoder.md R115: `STATE_SIGNATURE` completes with `data<<4 | mode<<3 | toggle`, everything else held; bit by bit the value
is as the rule lists; two different commands share 0x78. -/
def Obligations.StateSignatureOutput : Prop :=
  (∀ (w : Raw) (s : State), ∃ g : BitVec 8,
    exec (.stateSignature (Frame.ofBits w)) s = .next { s with out := { s.out with stateSignature := g } } ∧
    g.toNat = (slice w 7 4 * 16 ||| slice w 10 8 * 8 ||| slice w 15 15) ∧
    g.getLsbD 7 = w.getLsbD 7 ∧ g.getLsbD 6 = w.getLsbD 6 ∧
    g.getLsbD 5 = (w.getLsbD 5 || w.getLsbD 10) ∧ g.getLsbD 4 = (w.getLsbD 4 || w.getLsbD 9) ∧
    g.getLsbD 3 = w.getLsbD 8 ∧ g.getLsbD 2 = false ∧ g.getLsbD 1 = false ∧ g.getLsbD 0 = w.getLsbD 15) ∧
  stateSignature (Frame.ofBits 0x0550) = 0x78 ∧ stateSignature (Frame.ofBits 0x0740) = 0x78

/-- 41_frame_decoder.md R116, R117: `RED_EFFECTED` and `BLUE_EFFECTED` complete for every frame; everything else holds. -/
def Obligations.EffectedOutputs : Prop :=
  ∀ (w : Raw) (s : State),
    exec (.redEffected (Frame.ofBits w)) s = .next { s with
      out := { s.out with redEffected := decide ((slice w 14 14 = 0 ∧ slice w 10 8 = 1) ∨ slice w 8 8 = 0) } } ∧
    exec (.blueEffected (Frame.ofBits w)) s = .next { s with
      out := { s.out with blueEffected := decide ((slice w 14 14 = 0 ∧ slice w 10 8 = 1) ∨ slice w 8 8 = 1) } }

/-- 41_frame_decoder.md R114: the port values of the commands, in the order of listing, each used once, 7 by none. -/
def Obligations.CommandPortCodes : Prop :=
  Command.stop.code = 0 ∧ Command.forward.code = 1 ∧ Command.backward.code = 2 ∧ Command.increase.code = 3 ∧
    Command.decrease.code = 4 ∧ Command.reset.code = 5 ∧ Command.notApplicable.code = 6 ∧
    ∀ c : Command, c.code ≠ 7

/-- 41_frame_decoder.md R100, 70_reset_and_hazards.md R180: after every step, reset or not, all eighteen outputs are the functions of
`dec_frame` that R101 to R117 write, none of them gated by the checksum, for every value of the parameters. -/
def Obligations.DecoderOutputsFollowTheFrame : Prop :=
  ∀ s t : State, step s = .next t → t.out = outputsOfBits t.build t.decFrame

/-- 30_encoding.md section 3: the command rows of a frame alone drive the two commands that the function rows compute, for every frame that
has command rows; and a frame has none exactly if it is neither standard_rc nor pwm_rc. -/
def Obligations.CommandRowsAgreeWithFunctions : Prop :=
  ∀ (f : Frame) (s : State), ∃ t, runRows (commandRows f) s = .next t ∧
    (commandRows f ≠ [] → t.out.redCommand = redCommand s.build f ∧ t.out.blueCommand = blueCommand s.build f) ∧
    (commandRows f = [] ↔ isStandardRc f = false ∧ isPwmRc f = false)

/-- 41_frame_decoder.md R100: the demodulator reads nothing of the decoder and the decoder nothing of the demodulator: two states that
agree on the registers, the parameters and the captured `rst` and `ir_in` step to the same registers, whatever `dec_frame` is, at a
reset and after one; two that agree on the value at `dec_frame` after the step show the same outputs, whatever the registers are. -/
def Obligations.DemodulatorAndDecoderAreIndependent : Prop :=
  ∀ s1 s2 t1 t2 : State, s1.build = s2.build → step s1 = .next t1 → step s2 = .next t2 →
    (s1.registers = s2.registers → (s1.wasReset = true ∧ s2.wasReset = true ∨ (sampleInputs s1).rst = true) →
      (sampleInputs s1).rst = (sampleInputs s2).rst → (sampleInputs s1).irIn = (sampleInputs s2).irIn →
      t1.registers = t2.registers) ∧
    (t1.decFrame = t2.decFrame → t1.out = t2.out)

/-- 41_frame_decoder.md section 1: in the direct wiring the decoder's outputs after a step are those of `frame_data`, so in a
`frame_valid` cycle those of the completed frame. -/
def Obligations.DirectWiringDecodesTheFrameOnThePort : Prop :=
  ∀ s t : State, s.wiring = .direct → step s = .next t →
    t.decFrame = frameDataPort t ∧ t.out = outputsOfBits t.build (frameDataPort t) ∧
    ∀ v, frameOffered t = some v → t.out = outputsOfBits t.build v

/-! Encodings. -/

/-- 30_encoding.md R45 to R51: for every well-formed instruction, with every operand at every value its encoding admits, the rows of its
word contain it. -/
def Obligations.DecodeOfEncode : Prop :=
  ∀ i : Instr, i.wellFormed = true → i ∈ decode i.homeState (encode i)

/-- 30_encoding.md section 3: every row a word decodes to is well formed and has that word; so no bit of a word is dropped. -/
def Obligations.EncodeOfDecode : Prop :=
  ∀ (st : DemodState) (w : CodeWord) (i : Instr), i ∈ decode st w → i.wellFormed = true ∧ encode i = w

/-- 40_demodulator.md R84: for every state and every time exactly one of the eight rows applies: its window holds the time and its state
is this one, or it is a row of any state. -/
def Obligations.ExactlyOneSymbolRowApplies : Prop :=
  ∀ (st : DemodState) (dt : Nat) (i : Instr),
    (i.wellFormed = true ∧ encode i = .sym dt ∧ (i.homeState = st ∨ i = .short dt ∨ i = .long dt)) ↔ i = decodeSym st dt

/-- spec/opcode_table.json: words written out from the encodings decode to the rows they stand for. Which of a frame's
rows is answered, and that 0 bits mean a time, is the model's choice (log entry 14). The data bits of the four command words are
PRESUMED by the spec (log entries 9 and 10). -/
def Obligations.WrittenOutWordsDecode : Prop :=
  decodeTableWord 16 0x0110 = some (.stdRedFwd ⟨0, 0, 0, 0⟩ 0) ∧
  decodeTableWord 16 0xB18D = some (.stdBlueBwd ⟨1, 3, 0, 0xD⟩ 0) ∧
  decodeTableWord 16 0x054E = some (.pwmBlueIncM5 ⟨0, 0, 0, 0xE⟩) ∧
  decodeTableWord 16 0x041A = some (.pwmRedOtherM4 ⟨0, 0, 0, 0xA⟩ 1) ∧
  decodeTableWord 16 0x1835 = some (.extendedMode ⟨0, 1, 1, 5⟩ 3) ∧
  decodeTableWord 16 0x444B = some (.comboPwmMode ⟨0, 0, 0, 0xB⟩ 4 4) ∧
  decodeTableWord 16 0x064D = some (.noclassM6 ⟨0, 0, 0, 0xD⟩ 4) ∧
  decodeTableWord 0 526 = some (.highIdle 526) ∧ decodeTableWord 0 947 = some (.ssIdle 947) ∧
  decodeTableWord 8 0 = none

/-! The environment (outside the block; 42_downstream_reference.md). -/

/-- 42_downstream_reference.md section 3 (environment): a frame whose checksum is wrong, or whose signature is the one its channel
stored, changes nothing and calls no handler; any other frame is accepted: its signature is stored, both commands move their
sub-channels as the table says, whatever the handlers answer, and the other channels, the queue and the handlers stay. -/
def Obligations.InvalidOrRepeatedFrameIsDiscarded : Prop :=
  ∀ (b : Build) (m : Marks) (w : Raw) (e : Env) (c : ChannelState),
    e.stateForChannel (slice w 13 12) = some c →
    ((¬ checksumRight w ∨ stateSignature (Frame.ofBits w) = c.previousSignature) → e.dispatch b m w = (e, [])) ∧
    (checksumRight w → stateSignature (Frame.ofBits w) ≠ c.previousSignature →
      (∃ c', (e.dispatch b m w).1.stateForChannel (slice w 13 12) = some c' ∧
        c'.previousSignature = stateSignature (Frame.ofBits w) ∧
        SubChannel.MovesBy (redCommand b (Frame.ofBits w)) c.red c'.red ∧
        SubChannel.MovesBy (blueCommand b (Frame.ofBits w)) c.blue c'.blue) ∧
      (∀ k, k ≠ slice w 13 12 → (e.dispatch b m w).1.stateForChannel k = e.stateForChannel k) ∧
      (e.dispatch b m w).1.queue = e.queue ∧ (e.dispatch b m w).1.capacity = e.capacity ∧
      (e.dispatch b m w).1.handlers = e.handlers)

/-- 42_downstream_reference.md section 3 (environment): dispatching a backlog of frames keeps every position inside
`[-steps, +steps]`: the clamps never overflow. -/
def Obligations.DispatchKeepsPositionsInRange : Prop :=
  ∀ (b : Build) (m : Nat → Marks) (ws : List Raw) (e : Env), e.inRange → (dispatchAll b m ws e).1.inRange

/-- 42_downstream_reference.md section 3 (environment), for an accepted frame, `c'` its channel's state after it. If the generic handler
is registered and marks the frame, the calls are exactly the one generic call. If no handler marks it, the calls are exactly those
of the registered slots whose condition holds, in the fixed order: the generic one always. Every call carries the frame and `c'`. -/
def Obligations.HandledFrameStopsTheSequence : Prop :=
  ∀ (b : Build) (m : Marks) (w : Raw) (e : Env) (c c' : ChannelState) (h : Handlers),
    e.stateForChannel (slice w 13 12) = some c → e.handlers[slice w 13 12]? = some h →
    checksumRight w → stateSignature (Frame.ofBits w) ≠ c.previousSignature →
    (e.dispatch b m w).1.stateForChannel (slice w 13 12) = some c' →
    (h.generic = true → m .generic w c' = true →
      (e.dispatch b m w).2 = [{ slot := .generic, frame := w, channelState := c' }]) ∧
    ((∀ slot, m slot w c' = false) →
      (e.dispatch b m w).2.map Call.slot =
        (if h.generic then [Slot.generic] else []) ++
        (if h.redEffected ∧ redEffected (Frame.ofBits w) then [Slot.redEffected] else []) ++
        (if h.blueEffected ∧ blueEffected (Frame.ofBits w) then [Slot.blueEffected] else []) ++
        (if h.redChanged ∧ c.red.actualStep ≠ c'.red.actualStep then [Slot.redChanged] else []) ++
        (if h.blueChanged ∧ c.blue.actualStep ≠ c'.blue.actualStep then [Slot.blueChanged] else [])) ∧
    ∀ x ∈ (e.dispatch b m w).2, x.frame = w ∧ x.channelState = c'

/-- 42_downstream_reference.md section 4 (environment): `set_steps` succeeds exactly inside its ranges, and then changes the two step
values of that channel and nothing else. That a position
outside the new range is left as it is too is the model's choice (log entry 26). -/
def Obligations.SetStepsValidatesItsArguments : Prop :=
  ∀ (e : Env) (ch r b : Nat),
    (e.setSteps ch r b = none ↔ ¬ (ch < 4 ∧ 1 ≤ r ∧ r ≤ 127 ∧ 1 ≤ b ∧ b ≤ 127)) ∧
    ∀ e', e.setSteps ch r b = some e' →
      e'.queue = e.queue ∧ e'.capacity = e.capacity ∧ e'.handlers = e.handlers ∧
      (∀ k, k ≠ ch → e'.stateForChannel k = e.stateForChannel k) ∧
      ∀ c, e.stateForChannel ch = some c →
        e'.stateForChannel ch =
          some { c with red := { c.red with steps := r }, blue := { c.blue with steps := b } }
end

