-- ==== Sys2Proof/Laws/Bits.lean ====
section
/-!
SUPPORT. The values of the small bit vectors, for case analysis, and what a frame's fields are in its sixteen bits.
-/

namespace Sys2Proof

/-- The windows with the constants of 00_scope.md R1. -/
theorem classify_eq (dt : Nat) :
    classify dt = if dt ≤ 316 then .short else if dt < 526 then .low else if dt < 947 then .high
      else if dt < 1560 then .ss else .long := rfl

theorem bit_cases (x : BitVec 1) : x = 0 ∨ x = 1 := by
  revert x; decide

theorem two_bit_cases (x : BitVec 2) : x = 0 ∨ x = 1 ∨ x = 2 ∨ x = 3 := by
  revert x; decide

theorem mode_cases (x : BitVec 3) : x = 0 ∨ x = 1 ∨ x = 2 ∨ x = 3 ∨ x = 4 ∨ x = 5 ∨ x = 6 ∨ x = 7 := by
  revert x; decide

theorem redSub_stdData (r b : BitVec 2) : redSub (stdData r b) = r := by
  revert r b; decide

theorem blueSub_stdData (r b : BitVec 2) : blueSub (stdData r b) = b := by
  revert r b; decide

theorem stdData_subs (d : BitVec 4) : stdData (redSub d) (blueSub d) = d := by
  revert d; decide

/-- Reading the fields of a frame's sixteen bits gives the frame (30_encoding.md R47). -/
@[simp] theorem Frame.ofBits_toBits (f : Frame) : Frame.ofBits f.toBits = f := by
  obtain ⟨t, e, c, a, m, d, k⟩ := f
  simp only [Frame.ofBits, Frame.toBits, Frame.mk.injEq]
  refine ⟨?_, ?_, ?_, ?_, ?_, ?_, ?_⟩ <;>
    (ext i hi; simp only [BitVec.getElem_extractLsb', BitVec.getLsbD_append]; interval_cases i <;> simp)

/-- The sixteen bits of the fields read are the bits: no bit is dropped (30_encoding.md R47). -/
@[simp] theorem Frame.toBits_ofBits (f : Raw) : (Frame.ofBits f).toBits = f := by
  apply BitVec.eq_of_getLsbD_eq
  intro i hi
  simp only [Frame.ofBits, Frame.toBits, BitVec.getLsbD_append, BitVec.getLsbD_extractLsb']
  interval_cases i <;> simp

end Sys2Proof
end

