-- ==== Sys2Proof/Laws/Environment.lean ====
section
/-!
SUPPORT. What the environment's dispatcher can do, each said once: a frame is discarded or accepted, and the handler slots that are
called.
-/

namespace Sys2Proof.Machine

/-- The channel of a word, over its bits (41_frame_decoder.md R104). -/
theorem channel_of_bits (w : Raw) : (Frame.ofBits w).channel.toNat = slice w 13 12 := by
  show (w.extractLsb' 12 2).toNat = _
  simp only [BitVec.extractLsb'_toNat, Nat.shiftRight_eq_div_pow, slice]

/-- A frame steps 1 and 2 reject (42_downstream_reference.md R136, R137). -/
theorem Env.dispatch_discarded (b : Build) (m : Marks) (w : Raw) (e : Env) {c : ChannelState}
    (hc : e.stateForChannel (slice w 13 12) = some c)
    (h : accepts (decoderOut b (Frame.ofBits w)) c = false) : e.dispatch b m w = (e, []) := by
  obtain ⟨hlt, rfl⟩ := Vector.getElem?_eq_some_iff.mp hc
  simp only [← channel_of_bits] at h
  exact if_neg (Bool.not_eq_true _ ▸ h)

/-- A frame steps 1 and 2 let pass (42_downstream_reference.md R138, R139). -/
theorem Env.dispatch_accepted (b : Build) (m : Marks) (w : Raw) (e : Env) {c : ChannelState} {h : Handlers}
    (hlt : slice w 13 12 < 4) (hc : e.channels[slice w 13 12] = c) (hh : e.handlers[slice w 13 12] = h)
    (ha : accepts (decoderOut b (Frame.ofBits w)) c = true) :
    e.dispatch b m w =
      ({ e with channels := e.channels.set (slice w 13 12) (c.accept (decoderOut b (Frame.ofBits w))) },
        dispatchSlots m w (c.accept (decoderOut b (Frame.ofBits w)))
          (slotsDue (decoderOut b (Frame.ofBits w)) c (c.accept (decoderOut b (Frame.ofBits w))) h)) := by
  subst hc hh
  simp only [← channel_of_bits] at ha ⊢
  exact if_pos ha

/-- With no handler marking the frame every due slot is called (42_downstream_reference.md R139). -/
theorem dispatchSlots_unmarked (m : Marks) (w : Raw) (c : ChannelState) (hm : ∀ slot, m slot w c = false)
    (slots : List Slot) : (dispatchSlots m w c slots).map Call.slot = slots := by
  induction slots with
  | nil => rfl
  | cons slot rest ih => simp [dispatchSlots, hm, ih]

/-- A call hands over the frame and the channel state (42_downstream_reference.md R139). -/
theorem dispatchSlots_arguments (m : Marks) (w : Raw) (c : ChannelState) (slots : List Slot) :
    ∀ x ∈ dispatchSlots m w c slots, x.frame = w ∧ x.channelState = c := by
  induction slots with
  | nil => simp [dispatchSlots]
  | cons slot rest ih =>
    intro x hx
    rw [dispatchSlots, List.mem_cons] at hx
    obtain rfl | hx := hx
    · exact ⟨rfl, rfl⟩
    · split at hx
      · cases hx
      · exact ih x hx

/-- A command keeps a position in its range (42_downstream_reference.md R138). -/
theorem SubChannel.apply_inRange (c : Command) {x : SubChannel} (h : x.inRange) : (x.apply c).inRange := by
  cases c <;> simp [SubChannel.apply, SubChannel.inRange] at * <;> omega

end Sys2Proof.Machine
end

