-- ==== Sys2Proof/Laws/State.lean ====
section
/-!
SUPPORT. One lemma per field per update of State, so that no later proof unfolds a record update.
-/

namespace Sys2Proof.Machine

@[simp] theorem forceIdle_state (s : State) : (forceIdle s).state = .idle := rfl
@[simp] theorem forceIdle_pos (s : State) : (forceIdle s).pos = s.pos := rfl
@[simp] theorem forceIdle_raw (s : State) : (forceIdle s).raw = s.raw := rfl
@[simp] theorem forceIdle_dt (s : State) : (forceIdle s).dt = s.dt := rfl
@[simp] theorem forceIdle_presc (s : State) : (forceIdle s).presc = s.presc := rfl
@[simp] theorem forceIdle_sync0 (s : State) : (forceIdle s).sync0 = s.sync0 := rfl
@[simp] theorem forceIdle_sync1 (s : State) : (forceIdle s).sync1 = s.sync1 := rfl
@[simp] theorem forceIdle_sync2 (s : State) : (forceIdle s).sync2 = s.sync2 := rfl
@[simp] theorem forceIdle_frameValid (s : State) : (forceIdle s).frameValid = s.frameValid := rfl
@[simp] theorem forceIdle_rst (s : State) : (forceIdle s).rst = s.rst := rfl
@[simp] theorem forceIdle_irIn (s : State) : (forceIdle s).irIn = s.irIn := rfl
@[simp] theorem forceIdle_decFrame (s : State) : (forceIdle s).decFrame = s.decFrame := rfl
@[simp] theorem forceIdle_out (s : State) : (forceIdle s).out = s.out := rfl
@[simp] theorem forceIdle_build (s : State) : (forceIdle s).build = s.build := rfl
@[simp] theorem forceIdle_wiring (s : State) : (forceIdle s).wiring = s.wiring := rfl
@[simp] theorem forceIdle_wasReset (s : State) : (forceIdle s).wasReset = s.wasReset := rfl
@[simp] theorem forceIdle_draws (s : State) : (forceIdle s).draws = s.draws := rfl
@[simp] theorem forceIdle_stimulus (s : State) : (forceIdle s).stimulus = s.stimulus := rfl

@[simp] theorem alignFrame_state (s : State) : (alignFrame s).state = s.state := rfl
@[simp] theorem alignFrame_pos (s : State) : (alignFrame s).pos = 15 := rfl
@[simp] theorem alignFrame_raw (s : State) : (alignFrame s).raw = 0x0000 := rfl
@[simp] theorem alignFrame_dt (s : State) : (alignFrame s).dt = s.dt := rfl
@[simp] theorem alignFrame_presc (s : State) : (alignFrame s).presc = s.presc := rfl
@[simp] theorem alignFrame_sync0 (s : State) : (alignFrame s).sync0 = s.sync0 := rfl
@[simp] theorem alignFrame_sync1 (s : State) : (alignFrame s).sync1 = s.sync1 := rfl
@[simp] theorem alignFrame_sync2 (s : State) : (alignFrame s).sync2 = s.sync2 := rfl
@[simp] theorem alignFrame_frameValid (s : State) : (alignFrame s).frameValid = s.frameValid := rfl
@[simp] theorem alignFrame_rst (s : State) : (alignFrame s).rst = s.rst := rfl
@[simp] theorem alignFrame_irIn (s : State) : (alignFrame s).irIn = s.irIn := rfl
@[simp] theorem alignFrame_decFrame (s : State) : (alignFrame s).decFrame = s.decFrame := rfl
@[simp] theorem alignFrame_out (s : State) : (alignFrame s).out = s.out := rfl
@[simp] theorem alignFrame_build (s : State) : (alignFrame s).build = s.build := rfl
@[simp] theorem alignFrame_wiring (s : State) : (alignFrame s).wiring = s.wiring := rfl
@[simp] theorem alignFrame_wasReset (s : State) : (alignFrame s).wasReset = s.wasReset := rfl
@[simp] theorem alignFrame_draws (s : State) : (alignFrame s).draws = s.draws := rfl
@[simp] theorem alignFrame_stimulus (s : State) : (alignFrame s).stimulus = s.stimulus := rfl

@[simp] theorem emitFrame_state (v : Raw) (s : State) : (emitFrame v s).state = s.state := rfl
@[simp] theorem emitFrame_pos (v : Raw) (s : State) : (emitFrame v s).pos = s.pos := rfl
@[simp] theorem emitFrame_raw (v : Raw) (s : State) : (emitFrame v s).raw = v := rfl
@[simp] theorem emitFrame_dt (v : Raw) (s : State) : (emitFrame v s).dt = s.dt := rfl
@[simp] theorem emitFrame_presc (v : Raw) (s : State) : (emitFrame v s).presc = s.presc := rfl
@[simp] theorem emitFrame_sync0 (v : Raw) (s : State) : (emitFrame v s).sync0 = s.sync0 := rfl
@[simp] theorem emitFrame_sync1 (v : Raw) (s : State) : (emitFrame v s).sync1 = s.sync1 := rfl
@[simp] theorem emitFrame_sync2 (v : Raw) (s : State) : (emitFrame v s).sync2 = s.sync2 := rfl
@[simp] theorem emitFrame_frameValid (v : Raw) (s : State) : (emitFrame v s).frameValid = true := rfl
@[simp] theorem emitFrame_rst (v : Raw) (s : State) : (emitFrame v s).rst = s.rst := rfl
@[simp] theorem emitFrame_irIn (v : Raw) (s : State) : (emitFrame v s).irIn = s.irIn := rfl
@[simp] theorem emitFrame_decFrame (v : Raw) (s : State) : (emitFrame v s).decFrame = s.decFrame := rfl
@[simp] theorem emitFrame_out (v : Raw) (s : State) : (emitFrame v s).out = s.out := rfl
@[simp] theorem emitFrame_build (v : Raw) (s : State) : (emitFrame v s).build = s.build := rfl
@[simp] theorem emitFrame_wiring (v : Raw) (s : State) : (emitFrame v s).wiring = s.wiring := rfl
@[simp] theorem emitFrame_wasReset (v : Raw) (s : State) : (emitFrame v s).wasReset = s.wasReset := rfl
@[simp] theorem emitFrame_draws (v : Raw) (s : State) : (emitFrame v s).draws = s.draws := rfl
@[simp] theorem emitFrame_stimulus (v : Raw) (s : State) : (emitFrame v s).stimulus = s.stimulus := rfl

@[simp] theorem clearStrobe_state (s : State) : (clearStrobe s).state = s.state := rfl
@[simp] theorem clearStrobe_pos (s : State) : (clearStrobe s).pos = s.pos := rfl
@[simp] theorem clearStrobe_raw (s : State) : (clearStrobe s).raw = s.raw := rfl
@[simp] theorem clearStrobe_dt (s : State) : (clearStrobe s).dt = s.dt := rfl
@[simp] theorem clearStrobe_presc (s : State) : (clearStrobe s).presc = s.presc := rfl
@[simp] theorem clearStrobe_sync0 (s : State) : (clearStrobe s).sync0 = s.sync0 := rfl
@[simp] theorem clearStrobe_sync1 (s : State) : (clearStrobe s).sync1 = s.sync1 := rfl
@[simp] theorem clearStrobe_sync2 (s : State) : (clearStrobe s).sync2 = s.sync2 := rfl
@[simp] theorem clearStrobe_frameValid (s : State) : (clearStrobe s).frameValid = false := rfl
@[simp] theorem clearStrobe_rst (s : State) : (clearStrobe s).rst = s.rst := rfl
@[simp] theorem clearStrobe_irIn (s : State) : (clearStrobe s).irIn = s.irIn := rfl
@[simp] theorem clearStrobe_decFrame (s : State) : (clearStrobe s).decFrame = s.decFrame := rfl
@[simp] theorem clearStrobe_out (s : State) : (clearStrobe s).out = s.out := rfl
@[simp] theorem clearStrobe_build (s : State) : (clearStrobe s).build = s.build := rfl
@[simp] theorem clearStrobe_wiring (s : State) : (clearStrobe s).wiring = s.wiring := rfl
@[simp] theorem clearStrobe_wasReset (s : State) : (clearStrobe s).wasReset = s.wasReset := rfl
@[simp] theorem clearStrobe_draws (s : State) : (clearStrobe s).draws = s.draws := rfl
@[simp] theorem clearStrobe_stimulus (s : State) : (clearStrobe s).stimulus = s.stimulus := rfl

@[simp] theorem resetRegisters_state (s : State) : (resetRegisters s).state = .idle := rfl
@[simp] theorem resetRegisters_pos (s : State) : (resetRegisters s).pos = 15 := rfl
@[simp] theorem resetRegisters_raw (s : State) : (resetRegisters s).raw = 0x0000 := rfl
@[simp] theorem resetRegisters_dt (s : State) : (resetRegisters s).dt = Config.dtSat := rfl
@[simp] theorem resetRegisters_presc (s : State) : (resetRegisters s).presc = 0 := rfl
@[simp] theorem resetRegisters_sync0 (s : State) : (resetRegisters s).sync0 = false := rfl
@[simp] theorem resetRegisters_sync1 (s : State) : (resetRegisters s).sync1 = false := rfl
@[simp] theorem resetRegisters_sync2 (s : State) : (resetRegisters s).sync2 = false := rfl
@[simp] theorem resetRegisters_frameValid (s : State) : (resetRegisters s).frameValid = false := rfl
@[simp] theorem resetRegisters_rst (s : State) : (resetRegisters s).rst = s.rst := rfl
@[simp] theorem resetRegisters_irIn (s : State) : (resetRegisters s).irIn = s.irIn := rfl
@[simp] theorem resetRegisters_decFrame (s : State) : (resetRegisters s).decFrame = s.decFrame := rfl
@[simp] theorem resetRegisters_out (s : State) : (resetRegisters s).out = s.out := rfl
@[simp] theorem resetRegisters_build (s : State) : (resetRegisters s).build = s.build := rfl
@[simp] theorem resetRegisters_wiring (s : State) : (resetRegisters s).wiring = s.wiring := rfl
@[simp] theorem resetRegisters_wasReset (s : State) : (resetRegisters s).wasReset = true := rfl
@[simp] theorem resetRegisters_draws (s : State) : (resetRegisters s).draws = s.draws := rfl
@[simp] theorem resetRegisters_stimulus (s : State) : (resetRegisters s).stimulus = s.stimulus := rfl

@[simp] theorem unspecifyRegisters_state (s : State) :
    (unspecifyRegisters s).state = (Config.unspecifiedRegisters s.draws).state := rfl
@[simp] theorem unspecifyRegisters_pos (s : State) :
    (unspecifyRegisters s).pos = (Config.unspecifiedRegisters s.draws).pos := rfl
@[simp] theorem unspecifyRegisters_raw (s : State) :
    (unspecifyRegisters s).raw = (Config.unspecifiedRegisters s.draws).raw := rfl
@[simp] theorem unspecifyRegisters_dt (s : State) :
    (unspecifyRegisters s).dt = (Config.unspecifiedRegisters s.draws).dt := rfl
@[simp] theorem unspecifyRegisters_presc (s : State) :
    (unspecifyRegisters s).presc = (Config.unspecifiedRegisters s.draws).presc % 2 ^ s.build.prescWidth := rfl
@[simp] theorem unspecifyRegisters_sync0 (s : State) :
    (unspecifyRegisters s).sync0 = (Config.unspecifiedRegisters s.draws).sync0 := rfl
@[simp] theorem unspecifyRegisters_sync1 (s : State) :
    (unspecifyRegisters s).sync1 = (Config.unspecifiedRegisters s.draws).sync1 := rfl
@[simp] theorem unspecifyRegisters_sync2 (s : State) :
    (unspecifyRegisters s).sync2 = (Config.unspecifiedRegisters s.draws).sync2 := rfl
@[simp] theorem unspecifyRegisters_frameValid (s : State) :
    (unspecifyRegisters s).frameValid = (Config.unspecifiedRegisters s.draws).frameValid := rfl
@[simp] theorem unspecifyRegisters_rst (s : State) : (unspecifyRegisters s).rst = s.rst := rfl
@[simp] theorem unspecifyRegisters_irIn (s : State) : (unspecifyRegisters s).irIn = s.irIn := rfl
@[simp] theorem unspecifyRegisters_decFrame (s : State) : (unspecifyRegisters s).decFrame = s.decFrame := rfl
@[simp] theorem unspecifyRegisters_out (s : State) : (unspecifyRegisters s).out = s.out := rfl
@[simp] theorem unspecifyRegisters_build (s : State) : (unspecifyRegisters s).build = s.build := rfl
@[simp] theorem unspecifyRegisters_wiring (s : State) : (unspecifyRegisters s).wiring = s.wiring := rfl
@[simp] theorem unspecifyRegisters_wasReset (s : State) : (unspecifyRegisters s).wasReset = s.wasReset := rfl
@[simp] theorem unspecifyRegisters_draws (s : State) : (unspecifyRegisters s).draws = s.draws + 1 := rfl
@[simp] theorem unspecifyRegisters_stimulus (s : State) : (unspecifyRegisters s).stimulus = s.stimulus := rfl

@[simp] theorem latchTiming_state (b : State) (s : State) : (latchTiming b s).state = s.state := rfl
@[simp] theorem latchTiming_pos (b : State) (s : State) : (latchTiming b s).pos = s.pos := rfl
@[simp] theorem latchTiming_raw (b : State) (s : State) : (latchTiming b s).raw = s.raw := rfl
@[simp] theorem latchTiming_dt (b : State) (s : State) : (latchTiming b s).dt = nextDt b := rfl
@[simp] theorem latchTiming_presc (b : State) (s : State) : (latchTiming b s).presc = nextPresc b := rfl
@[simp] theorem latchTiming_sync0 (b : State) (s : State) : (latchTiming b s).sync0 = b.irIn := rfl
@[simp] theorem latchTiming_sync1 (b : State) (s : State) : (latchTiming b s).sync1 = b.sync0 := rfl
@[simp] theorem latchTiming_sync2 (b : State) (s : State) : (latchTiming b s).sync2 = b.sync1 := rfl
@[simp] theorem latchTiming_frameValid (b : State) (s : State) : (latchTiming b s).frameValid = s.frameValid := rfl
@[simp] theorem latchTiming_rst (b : State) (s : State) : (latchTiming b s).rst = s.rst := rfl
@[simp] theorem latchTiming_irIn (b : State) (s : State) : (latchTiming b s).irIn = s.irIn := rfl
@[simp] theorem latchTiming_decFrame (b : State) (s : State) : (latchTiming b s).decFrame = s.decFrame := rfl
@[simp] theorem latchTiming_out (b : State) (s : State) : (latchTiming b s).out = s.out := rfl
@[simp] theorem latchTiming_build (b : State) (s : State) : (latchTiming b s).build = s.build := rfl
@[simp] theorem latchTiming_wiring (b : State) (s : State) : (latchTiming b s).wiring = s.wiring := rfl
@[simp] theorem latchTiming_wasReset (b : State) (s : State) : (latchTiming b s).wasReset = s.wasReset := rfl
@[simp] theorem latchTiming_draws (b : State) (s : State) : (latchTiming b s).draws = s.draws := rfl
@[simp] theorem latchTiming_stimulus (b : State) (s : State) : (latchTiming b s).stimulus = s.stimulus := rfl

@[simp] theorem driveClass_state (e t p c : Bool) (s : State) : (driveClass e t p c s).state = s.state := rfl
@[simp] theorem driveClass_pos (e t p c : Bool) (s : State) : (driveClass e t p c s).pos = s.pos := rfl
@[simp] theorem driveClass_raw (e t p c : Bool) (s : State) : (driveClass e t p c s).raw = s.raw := rfl
@[simp] theorem driveClass_dt (e t p c : Bool) (s : State) : (driveClass e t p c s).dt = s.dt := rfl
@[simp] theorem driveClass_presc (e t p c : Bool) (s : State) : (driveClass e t p c s).presc = s.presc := rfl
@[simp] theorem driveClass_sync0 (e t p c : Bool) (s : State) : (driveClass e t p c s).sync0 = s.sync0 := rfl
@[simp] theorem driveClass_sync1 (e t p c : Bool) (s : State) : (driveClass e t p c s).sync1 = s.sync1 := rfl
@[simp] theorem driveClass_sync2 (e t p c : Bool) (s : State) : (driveClass e t p c s).sync2 = s.sync2 := rfl
@[simp] theorem driveClass_frameValid (e t p c : Bool) (s : State) : (driveClass e t p c s).frameValid = s.frameValid := rfl
@[simp] theorem driveClass_rst (e t p c : Bool) (s : State) : (driveClass e t p c s).rst = s.rst := rfl
@[simp] theorem driveClass_irIn (e t p c : Bool) (s : State) : (driveClass e t p c s).irIn = s.irIn := rfl
@[simp] theorem driveClass_decFrame (e t p c : Bool) (s : State) : (driveClass e t p c s).decFrame = s.decFrame := rfl
@[simp] theorem driveClass_out (e t p c : Bool) (s : State) : (driveClass e t p c s).out = { s.out with isExtendedMode := e, isStandardRc := t, isPwmRc := p, isComboPwmMode := c } := rfl
@[simp] theorem driveClass_build (e t p c : Bool) (s : State) : (driveClass e t p c s).build = s.build := rfl
@[simp] theorem driveClass_wiring (e t p c : Bool) (s : State) : (driveClass e t p c s).wiring = s.wiring := rfl
@[simp] theorem driveClass_wasReset (e t p c : Bool) (s : State) : (driveClass e t p c s).wasReset = s.wasReset := rfl
@[simp] theorem driveClass_draws (e t p c : Bool) (s : State) : (driveClass e t p c s).draws = s.draws := rfl
@[simp] theorem driveClass_stimulus (e t p c : Bool) (s : State) : (driveClass e t p c s).stimulus = s.stimulus := rfl

@[simp] theorem driveRed_state (c : Command) (s : State) : (driveRed c s).state = s.state := rfl
@[simp] theorem driveRed_pos (c : Command) (s : State) : (driveRed c s).pos = s.pos := rfl
@[simp] theorem driveRed_raw (c : Command) (s : State) : (driveRed c s).raw = s.raw := rfl
@[simp] theorem driveRed_dt (c : Command) (s : State) : (driveRed c s).dt = s.dt := rfl
@[simp] theorem driveRed_presc (c : Command) (s : State) : (driveRed c s).presc = s.presc := rfl
@[simp] theorem driveRed_sync0 (c : Command) (s : State) : (driveRed c s).sync0 = s.sync0 := rfl
@[simp] theorem driveRed_sync1 (c : Command) (s : State) : (driveRed c s).sync1 = s.sync1 := rfl
@[simp] theorem driveRed_sync2 (c : Command) (s : State) : (driveRed c s).sync2 = s.sync2 := rfl
@[simp] theorem driveRed_frameValid (c : Command) (s : State) : (driveRed c s).frameValid = s.frameValid := rfl
@[simp] theorem driveRed_rst (c : Command) (s : State) : (driveRed c s).rst = s.rst := rfl
@[simp] theorem driveRed_irIn (c : Command) (s : State) : (driveRed c s).irIn = s.irIn := rfl
@[simp] theorem driveRed_decFrame (c : Command) (s : State) : (driveRed c s).decFrame = s.decFrame := rfl
@[simp] theorem driveRed_out (c : Command) (s : State) : (driveRed c s).out = { s.out with redCommand := c } := rfl
@[simp] theorem driveRed_build (c : Command) (s : State) : (driveRed c s).build = s.build := rfl
@[simp] theorem driveRed_wiring (c : Command) (s : State) : (driveRed c s).wiring = s.wiring := rfl
@[simp] theorem driveRed_wasReset (c : Command) (s : State) : (driveRed c s).wasReset = s.wasReset := rfl
@[simp] theorem driveRed_draws (c : Command) (s : State) : (driveRed c s).draws = s.draws := rfl
@[simp] theorem driveRed_stimulus (c : Command) (s : State) : (driveRed c s).stimulus = s.stimulus := rfl

@[simp] theorem driveBlue_state (c : Command) (s : State) : (driveBlue c s).state = s.state := rfl
@[simp] theorem driveBlue_pos (c : Command) (s : State) : (driveBlue c s).pos = s.pos := rfl
@[simp] theorem driveBlue_raw (c : Command) (s : State) : (driveBlue c s).raw = s.raw := rfl
@[simp] theorem driveBlue_dt (c : Command) (s : State) : (driveBlue c s).dt = s.dt := rfl
@[simp] theorem driveBlue_presc (c : Command) (s : State) : (driveBlue c s).presc = s.presc := rfl
@[simp] theorem driveBlue_sync0 (c : Command) (s : State) : (driveBlue c s).sync0 = s.sync0 := rfl
@[simp] theorem driveBlue_sync1 (c : Command) (s : State) : (driveBlue c s).sync1 = s.sync1 := rfl
@[simp] theorem driveBlue_sync2 (c : Command) (s : State) : (driveBlue c s).sync2 = s.sync2 := rfl
@[simp] theorem driveBlue_frameValid (c : Command) (s : State) : (driveBlue c s).frameValid = s.frameValid := rfl
@[simp] theorem driveBlue_rst (c : Command) (s : State) : (driveBlue c s).rst = s.rst := rfl
@[simp] theorem driveBlue_irIn (c : Command) (s : State) : (driveBlue c s).irIn = s.irIn := rfl
@[simp] theorem driveBlue_decFrame (c : Command) (s : State) : (driveBlue c s).decFrame = s.decFrame := rfl
@[simp] theorem driveBlue_out (c : Command) (s : State) : (driveBlue c s).out = { s.out with blueCommand := c } := rfl
@[simp] theorem driveBlue_build (c : Command) (s : State) : (driveBlue c s).build = s.build := rfl
@[simp] theorem driveBlue_wiring (c : Command) (s : State) : (driveBlue c s).wiring = s.wiring := rfl
@[simp] theorem driveBlue_wasReset (c : Command) (s : State) : (driveBlue c s).wasReset = s.wasReset := rfl
@[simp] theorem driveBlue_draws (c : Command) (s : State) : (driveBlue c s).draws = s.draws := rfl
@[simp] theorem driveBlue_stimulus (c : Command) (s : State) : (driveBlue c s).stimulus = s.stimulus := rfl

@[simp] theorem driveCommands_state (r b : Command) (s : State) : (driveCommands r b s).state = s.state := rfl
@[simp] theorem driveCommands_pos (r b : Command) (s : State) : (driveCommands r b s).pos = s.pos := rfl
@[simp] theorem driveCommands_raw (r b : Command) (s : State) : (driveCommands r b s).raw = s.raw := rfl
@[simp] theorem driveCommands_dt (r b : Command) (s : State) : (driveCommands r b s).dt = s.dt := rfl
@[simp] theorem driveCommands_presc (r b : Command) (s : State) : (driveCommands r b s).presc = s.presc := rfl
@[simp] theorem driveCommands_sync0 (r b : Command) (s : State) : (driveCommands r b s).sync0 = s.sync0 := rfl
@[simp] theorem driveCommands_sync1 (r b : Command) (s : State) : (driveCommands r b s).sync1 = s.sync1 := rfl
@[simp] theorem driveCommands_sync2 (r b : Command) (s : State) : (driveCommands r b s).sync2 = s.sync2 := rfl
@[simp] theorem driveCommands_frameValid (r b : Command) (s : State) : (driveCommands r b s).frameValid = s.frameValid := rfl
@[simp] theorem driveCommands_rst (r b : Command) (s : State) : (driveCommands r b s).rst = s.rst := rfl
@[simp] theorem driveCommands_irIn (r b : Command) (s : State) : (driveCommands r b s).irIn = s.irIn := rfl
@[simp] theorem driveCommands_decFrame (r b : Command) (s : State) : (driveCommands r b s).decFrame = s.decFrame := rfl
@[simp] theorem driveCommands_out (r b : Command) (s : State) : (driveCommands r b s).out = { s.out with redCommand := r, blueCommand := b } := rfl
@[simp] theorem driveCommands_build (r b : Command) (s : State) : (driveCommands r b s).build = s.build := rfl
@[simp] theorem driveCommands_wiring (r b : Command) (s : State) : (driveCommands r b s).wiring = s.wiring := rfl
@[simp] theorem driveCommands_wasReset (r b : Command) (s : State) : (driveCommands r b s).wasReset = s.wasReset := rfl
@[simp] theorem driveCommands_draws (r b : Command) (s : State) : (driveCommands r b s).draws = s.draws := rfl
@[simp] theorem driveCommands_stimulus (r b : Command) (s : State) : (driveCommands r b s).stimulus = s.stimulus := rfl

@[simp] theorem sampleInputs_state (s : State) : (sampleInputs s).state = s.state := by
  unfold sampleInputs; split <;> rfl
@[simp] theorem sampleInputs_pos (s : State) : (sampleInputs s).pos = s.pos := by
  unfold sampleInputs; split <;> rfl
@[simp] theorem sampleInputs_raw (s : State) : (sampleInputs s).raw = s.raw := by
  unfold sampleInputs; split <;> rfl
@[simp] theorem sampleInputs_dt (s : State) : (sampleInputs s).dt = s.dt := by
  unfold sampleInputs; split <;> rfl
@[simp] theorem sampleInputs_presc (s : State) : (sampleInputs s).presc = s.presc := by
  unfold sampleInputs; split <;> rfl
@[simp] theorem sampleInputs_sync0 (s : State) : (sampleInputs s).sync0 = s.sync0 := by
  unfold sampleInputs; split <;> rfl
@[simp] theorem sampleInputs_sync1 (s : State) : (sampleInputs s).sync1 = s.sync1 := by
  unfold sampleInputs; split <;> rfl
@[simp] theorem sampleInputs_sync2 (s : State) : (sampleInputs s).sync2 = s.sync2 := by
  unfold sampleInputs; split <;> rfl
@[simp] theorem sampleInputs_frameValid (s : State) : (sampleInputs s).frameValid = s.frameValid := by
  unfold sampleInputs; split <;> rfl
@[simp] theorem sampleInputs_out (s : State) : (sampleInputs s).out = s.out := by
  unfold sampleInputs; split <;> rfl
@[simp] theorem sampleInputs_build (s : State) : (sampleInputs s).build = s.build := by
  unfold sampleInputs; split <;> rfl
@[simp] theorem sampleInputs_wiring (s : State) : (sampleInputs s).wiring = s.wiring := by
  unfold sampleInputs; split <;> rfl
@[simp] theorem sampleInputs_wasReset (s : State) : (sampleInputs s).wasReset = s.wasReset := by
  unfold sampleInputs; split <;> rfl
@[simp] theorem sampleInputs_draws (s : State) : (sampleInputs s).draws = s.draws := by
  unfold sampleInputs; split <;> rfl

@[simp] theorem driveDecFrame_state (s : State) : (driveDecFrame s).state = s.state := by
  unfold driveDecFrame; split <;> rfl
@[simp] theorem driveDecFrame_pos (s : State) : (driveDecFrame s).pos = s.pos := by
  unfold driveDecFrame; split <;> rfl
@[simp] theorem driveDecFrame_raw (s : State) : (driveDecFrame s).raw = s.raw := by
  unfold driveDecFrame; split <;> rfl
@[simp] theorem driveDecFrame_dt (s : State) : (driveDecFrame s).dt = s.dt := by
  unfold driveDecFrame; split <;> rfl
@[simp] theorem driveDecFrame_presc (s : State) : (driveDecFrame s).presc = s.presc := by
  unfold driveDecFrame; split <;> rfl
@[simp] theorem driveDecFrame_sync0 (s : State) : (driveDecFrame s).sync0 = s.sync0 := by
  unfold driveDecFrame; split <;> rfl
@[simp] theorem driveDecFrame_sync1 (s : State) : (driveDecFrame s).sync1 = s.sync1 := by
  unfold driveDecFrame; split <;> rfl
@[simp] theorem driveDecFrame_sync2 (s : State) : (driveDecFrame s).sync2 = s.sync2 := by
  unfold driveDecFrame; split <;> rfl
@[simp] theorem driveDecFrame_frameValid (s : State) : (driveDecFrame s).frameValid = s.frameValid := by
  unfold driveDecFrame; split <;> rfl
@[simp] theorem driveDecFrame_rst (s : State) : (driveDecFrame s).rst = s.rst := by
  unfold driveDecFrame; split <;> rfl
@[simp] theorem driveDecFrame_irIn (s : State) : (driveDecFrame s).irIn = s.irIn := by
  unfold driveDecFrame; split <;> rfl
@[simp] theorem driveDecFrame_out (s : State) : (driveDecFrame s).out = s.out := by
  unfold driveDecFrame; split <;> rfl
@[simp] theorem driveDecFrame_build (s : State) : (driveDecFrame s).build = s.build := by
  unfold driveDecFrame; split <;> rfl
@[simp] theorem driveDecFrame_wiring (s : State) : (driveDecFrame s).wiring = s.wiring := by
  unfold driveDecFrame; split <;> rfl
@[simp] theorem driveDecFrame_wasReset (s : State) : (driveDecFrame s).wasReset = s.wasReset := by
  unfold driveDecFrame; split <;> rfl
@[simp] theorem driveDecFrame_draws (s : State) : (driveDecFrame s).draws = s.draws := by
  unfold driveDecFrame; split <;> rfl
@[simp] theorem driveDecFrame_stimulus (s : State) : (driveDecFrame s).stimulus = s.stimulus := by
  unfold driveDecFrame; split <;> rfl

@[simp] theorem positionStep_dt (v : Raw) (s : State) : (positionStep v s).dt = s.dt := by
  unfold positionStep; split <;> rfl
@[simp] theorem positionStep_presc (v : Raw) (s : State) : (positionStep v s).presc = s.presc := by
  unfold positionStep; split <;> rfl
@[simp] theorem positionStep_sync0 (v : Raw) (s : State) : (positionStep v s).sync0 = s.sync0 := by
  unfold positionStep; split <;> rfl
@[simp] theorem positionStep_sync1 (v : Raw) (s : State) : (positionStep v s).sync1 = s.sync1 := by
  unfold positionStep; split <;> rfl
@[simp] theorem positionStep_sync2 (v : Raw) (s : State) : (positionStep v s).sync2 = s.sync2 := by
  unfold positionStep; split <;> rfl
@[simp] theorem positionStep_rst (v : Raw) (s : State) : (positionStep v s).rst = s.rst := by
  unfold positionStep; split <;> rfl
@[simp] theorem positionStep_irIn (v : Raw) (s : State) : (positionStep v s).irIn = s.irIn := by
  unfold positionStep; split <;> rfl
@[simp] theorem positionStep_decFrame (v : Raw) (s : State) : (positionStep v s).decFrame = s.decFrame := by
  unfold positionStep; split <;> rfl
@[simp] theorem positionStep_out (v : Raw) (s : State) : (positionStep v s).out = s.out := by
  unfold positionStep; split <;> rfl
@[simp] theorem positionStep_build (v : Raw) (s : State) : (positionStep v s).build = s.build := by
  unfold positionStep; split <;> rfl
@[simp] theorem positionStep_wiring (v : Raw) (s : State) : (positionStep v s).wiring = s.wiring := by
  unfold positionStep; split <;> rfl
@[simp] theorem positionStep_wasReset (v : Raw) (s : State) : (positionStep v s).wasReset = s.wasReset := by
  unfold positionStep; split <;> rfl
@[simp] theorem positionStep_draws (v : Raw) (s : State) : (positionStep v s).draws = s.draws := by
  unfold positionStep; split <;> rfl
@[simp] theorem positionStep_stimulus (v : Raw) (s : State) : (positionStep v s).stimulus = s.stimulus := by
  unfold positionStep; split <;> rfl

@[simp] theorem positionStep_raw (v : Raw) (s : State) : (positionStep v s).raw = v := by
  unfold positionStep; split <;> rfl

/-- The levels that stand stay when the stimulus is used up. -/
theorem sampleInputs_nil {s : State} (h : s.stimulus = []) : sampleInputs s = s := by
  unfold sampleInputs; rw [h]

/-- The next sample's levels are captured. -/
theorem sampleInputs_cons {s : State} {x : Sample} {rest : List Sample} (h : s.stimulus = x :: rest) :
    sampleInputs s = { s with rst := x.rst, irIn := x.irIn, decFrame := x.decFrame, stimulus := rest } := by
  unfold sampleInputs; rw [h]

@[simp] theorem fall_sampleInputs (s : State) : fall (sampleInputs s) = fall s := by
  simp [fall]

@[simp] theorem tick_sampleInputs (s : State) : tick (sampleInputs s) = tick s := by
  simp [tick]

@[simp] theorem dtNow_sampleInputs (s : State) : dtNow (sampleInputs s) = dtNow s := by
  simp [dtNow]

@[simp] theorem nextDt_sampleInputs (s : State) : nextDt (sampleInputs s) = nextDt s := by
  simp [nextDt]

@[simp] theorem nextPresc_sampleInputs (s : State) : nextPresc (sampleInputs s) = nextPresc s := by
  simp [nextPresc]

end Sys2Proof.Machine
end

