-- ==== Sys2Proof/Laws/Exec.lean ====
section
/-!
SUPPORT. What an instruction, an event, the settling of the decoder and a step can do, each said once.
-/

namespace Sys2Proof.Machine

@[simp] theorem andThen_next (s : State) (k : State → Host.Outcome State Fault Refusal) :
    andThen (.next s) k = k s := rfl

/-- Every instruction answers a next state, on every operand and every state (40_demodulator.md R84, 41_frame_decoder.md R100). -/
theorem exec_completes (i : Instr) (s : State) : ∃ t, exec i s = .next t := by
  cases i <;> first
    | exact ⟨_, rfl⟩
    | (simp only [exec, execShort, execLong, execSsIdle, execSsSampling, execHighSampling, execLowSampling]
       split <;> exact ⟨_, rfl⟩)

/-- A FRAME row writes the decoder's wires and nothing else. -/
theorem exec_decodeRows_frame {f : Frame} {i : Instr} (hi : i ∈ decodeRows f) (s : State) :
    ∃ o, exec i s = .next { s with out := o } := by
  simp only [decodeRows, List.mem_cons, List.mem_append, functionRows, List.not_mem_nil, or_false] at hi
  obtain rfl | hi | hi := hi
  · unfold classRow; (repeat' split) <;> exact ⟨_, rfl⟩
  · revert hi
    unfold commandRows stdRedRow stdBlueRow pwmRowM4 pwmRowM5 pwmRowM7
    (repeat' split) <;> simp only [List.mem_cons, List.not_mem_nil, or_false, false_imp_iff] <;>
      (intro h; first | (subst h; exact ⟨_, rfl⟩) | (obtain rfl | rfl := h <;> exact ⟨_, rfl⟩))
  · obtain rfl | rfl | rfl | rfl | rfl | rfl | rfl | rfl | rfl := hi <;> exact ⟨_, rfl⟩

/-- The event-level step as a table over the symbol and the state (40_demodulator.md R84). -/
theorem eventStep_table (dt : Nat) (s : State) :
    eventStep dt s = .next
      (match classify dt, s.state with
       | .short, _ => forceIdle (clearStrobe s)
       | .long, _ => forceIdle (clearStrobe s)
       | .low, .idle => clearStrobe s
       | .high, .idle => clearStrobe s
       | .ss, .idle => { alignFrame (clearStrobe s) with state := .sampling }
       | .ss, .sampling => alignFrame (clearStrobe s)
       | .high, .sampling => positionStep (setBitAt s.raw s.pos) (clearStrobe s)
       | .low, .sampling => positionStep s.raw (clearStrobe s)) := by
  unfold eventStep decodeSym
  cases hc : classify dt <;> cases hs : s.state <;>
    simp [exec, execShort, execLong, execLowIdle, execHighIdle, execSsIdle, execSsSampling, execHighSampling,
      execLowSampling, hc, hs]

theorem runRows_append (a b : List Instr) (s : State) :
    runRows (a ++ b) s = andThen (runRows a s) (runRows b) := by
  induction a generalizing s with
  | nil => rfl
  | cons i rest ih =>
    obtain ⟨t, ht⟩ := exec_completes i s
    simp [runRows, ht, ih]

/-- The class row drives the four class outputs as the predicates say (41_frame_decoder.md R105 to R111). -/
theorem exec_classRow (f : Frame) (s : State) :
    exec (classRow f) s = .next (driveClass (isExtendedMode f) (isStandardRc f) (isPwmRc f) (isComboPwmMode f) s) := by
  obtain ⟨t, e, c, a, m, d, k⟩ := f
  obtain rfl | rfl := bit_cases e
  · obtain rfl | rfl | rfl | rfl | rfl | rfl | rfl | rfl := mode_cases m <;>
      simp [classRow, isExtendedMode, isStandardRc, isPwmRc, isComboPwmMode, Config.pwmExcludedMode, exec,
        execExtendedMode, execStandardRc, execNoclassM2, execNoclassM3, execNoclassM6, execPwmRcM4, execPwmRcM5,
        execPwmRcM7]
  · simp [classRow, isExtendedMode, isStandardRc, isPwmRc, isComboPwmMode, exec, execComboPwmMode]

/-- The function rows drive every output but the classes. -/
theorem runRows_functionRows (f : Frame) (s : State) :
    runRows (functionRows f) s = .next
      { s with
        out := { decoderOut s.build f with
          isExtendedMode := s.out.isExtendedMode, isStandardRc := s.out.isStandardRc, isPwmRc := s.out.isPwmRc
          isComboPwmMode := s.out.isComboPwmMode } } := rfl

/-- The command rows drive the two commands and nothing else. -/
theorem runRows_commandRows (f : Frame) (s : State) :
    ∃ r b, runRows (commandRows f) s = .next (driveCommands r b s) := by
  unfold commandRows stdRedRow stdBlueRow pwmRowM4 pwmRowM5 pwmRowM7
  (repeat' split) <;> exact ⟨_, _, rfl⟩

/-- Running all rows of a frame settles every wire (41_frame_decoder.md R100). -/
theorem runRows_decodeRows (f : Frame) (s : State) :
    runRows (decodeRows f) s = .next { s with out := decoderOut s.build f } := by
  obtain ⟨r, b, h⟩ := runRows_commandRows f (driveClass (isExtendedMode f) (isStandardRc f) (isPwmRc f) (isComboPwmMode f) s)
  simp only [decodeRows, runRows, exec_classRow, andThen_next, runRows_append, h, runRows_functionRows]
  rfl

/-- The settled decoder (41_frame_decoder.md R100). -/
theorem settleDecoder_next (s : State) :
    settleDecoder s = .next { s with out := decoderOut s.build (Frame.ofBits s.decFrame) } :=
  runRows_decodeRows _ s

/-- A clock edge without reset, said once (40_demodulator.md R76). -/
theorem clockEdge_next (s : State) :
    ∃ t, clockEdge s = .next (latchTiming s t) ∧
      ((fall s = true ∧ eventStep (dtNow s).toNat s = .next t) ∨ (fall s = false ∧ t = clearStrobe s)) := by
  cases hf : fall s with
  | true =>
    obtain ⟨t, ht⟩ := exec_completes (decodeSym s.state (dtNow s).toNat) (clearStrobe s)
    have ht : eventStep (dtNow s).toNat s = .next t := ht
    exact ⟨t, by simp [clockEdge, hf, ht], .inl ⟨rfl, ht⟩⟩
  | false => exact ⟨clearStrobe s, by simp [clockEdge, hf], .inr ⟨rfl, rfl⟩⟩

/-- Everything a rising clock edge can do to the registers (40_demodulator.md R73, R76, 70_reset_and_hazards.md R180): it answers a
next state, and that is one of these. -/
theorem registerEdge_next (s : State) :
    ∃ x, registerEdge s = .next x ∧
      ((s.rst = true ∧ x = resetRegisters s) ∨
        (s.rst = false ∧ s.wasReset = true ∧
          ∃ t, x = latchTiming s t ∧
            ((fall s = true ∧ eventStep (dtNow s).toNat s = .next t) ∨ (fall s = false ∧ t = clearStrobe s))) ∨
        (s.rst = false ∧ s.wasReset = false ∧ x = unspecifyRegisters s)) := by
  cases hr : s.rst with
  | true => exact ⟨_, by simp [registerEdge, hr], .inl ⟨rfl, rfl⟩⟩
  | false =>
    cases hw : s.wasReset with
    | true =>
      obtain ⟨t, ht, hc⟩ := clockEdge_next s
      exact ⟨_, by simp [registerEdge, hr, hw, ht], .inr (.inl ⟨rfl, rfl, t, rfl, hc⟩)⟩
    | false => exact ⟨_, by simp [registerEdge, hr, hw], .inr (.inr ⟨rfl, rfl, rfl⟩)⟩

/-- The state after the registers' edge, with `dec_frame` driven and the decoder settled. -/
def settled (t : State) : State :=
  { driveDecFrame t with out := decoderOut t.build (Frame.ofBits (driveDecFrame t).decFrame) }

/-- A step is the registers' edge, settled (40_demodulator.md R73, 41_frame_decoder.md R100). -/
theorem step_of_registerEdge {s x : State} (h : registerEdge (sampleInputs s) = .next x) : step s = .next (settled x) := by
  simp [step, cycle, h, settleDecoder_next, settled]

/-- A step at a clock edge with `rst == 1` (40_demodulator.md R73). -/
theorem step_reset {s : State} (h : (sampleInputs s).rst = true) :
    step s = .next (settled (resetRegisters (sampleInputs s))) :=
  step_of_registerEdge (by simp [registerEdge, h])

/-- A step at a clock edge with `rst == 0` after the first reset (40_demodulator.md R73, R76). -/
theorem step_edge {s t : State} (h : (sampleInputs s).rst = false) (hw : s.wasReset = true)
    (ht : clockEdge (sampleInputs s) = .next t) : step s = .next (settled t) :=
  step_of_registerEdge (by simp [registerEdge, h, hw, ht])

/-- A step at a clock edge with `rst == 0` before the first reset (70_reset_and_hazards.md R180). -/
theorem step_before_reset {s : State} (h : (sampleInputs s).rst = false) (hw : s.wasReset = false) :
    step s = .next (settled (unspecifyRegisters (sampleInputs s))) :=
  step_of_registerEdge (by simp [registerEdge, h, hw])

/-- Everything a step that answers a next state can have done. -/
theorem step_cases {s u : State} (hu : step s = .next u) :
    ((sampleInputs s).rst = true ∧ u = settled (resetRegisters (sampleInputs s))) ∨
    ((sampleInputs s).rst = false ∧ s.wasReset = true ∧
      ∃ t, u = settled (latchTiming (sampleInputs s) t) ∧
        ((fall s = true ∧ eventStep (dtNow s).toNat (sampleInputs s) = .next t) ∨
          (fall s = false ∧ t = clearStrobe (sampleInputs s)))) ∨
    ((sampleInputs s).rst = false ∧ s.wasReset = false ∧ u = settled (unspecifyRegisters (sampleInputs s))) := by
  obtain ⟨x, hx, hc⟩ := registerEdge_next (sampleInputs s)
  rw [step_of_registerEdge hx] at hu
  obtain rfl := Host.Outcome.next.inj hu
  simp only [sampleInputs_wasReset, fall_sampleInputs, dtNow_sampleInputs] at hc
  obtain ⟨hr, rfl⟩ | ⟨hr, hw, t, rfl, ht⟩ | ⟨hr, hw, rfl⟩ := hc
  · exact .inl ⟨hr, rfl⟩
  · exact .inr (.inl ⟨hr, hw, t, rfl, ht⟩)
  · exact .inr (.inr ⟨hr, hw, rfl⟩)

/-- Every step answers a next state (40_demodulator.md R84, 41_frame_decoder.md R100). -/
theorem step_completes (s : State) : ∃ u, step s = .next u :=
  let ⟨_, hx, _⟩ := registerEdge_next (sampleInputs s)
  ⟨_, step_of_registerEdge hx⟩

end Sys2Proof.Machine
end

