-- ==== Sys2Proof/Laws/PerInstr.lean ====
section
/-!
SUPPORT. Family EncodingPattern: the word the encoder writes for a well-formed instruction is a word of its row in
spec/opcode_table.json: the masked bits are the row's match, or the time lies in the row's window.
-/

namespace Sys2Proof.Laws.EncodingPattern

/-- What a row of the table fixes of its words. -/
inductive Row where
  | window (dtMin : Nat) (dtMax : Option Nat)
  | bits (mask pattern : Raw)

/-- The word is one of the row. -/
def Matches : Row → CodeWord → Prop
  | .window lo none, .sym dt => lo ≤ dt
  | .window lo (some hi), .sym dt => lo ≤ dt ∧ dt ≤ hi
  | .bits mask pattern, .frame f => f &&& mask = pattern
  | .window _ _, .frame _ => False
  | .bits _ _, .sym _ => False

/-- The columns `dt_min`, `dt_max`, `mask` and `match` of spec/opcode_table.json. -/
def table : Instr → Row
  | .short _ => .window 0 (some 316)
  | .long _ => .window 1560 none
  | .lowIdle _ => .window 317 (some 525)
  | .highIdle _ => .window 526 (some 946)
  | .ssIdle _ => .window 947 (some 1559)
  | .ssSampling _ => .window 947 (some 1559)
  | .highSampling _ => .window 526 (some 946)
  | .lowSampling _ => .window 317 (some 525)
  | .extendedMode _ _ => .bits 0x4700 0x0000
  | .standardRc _ _ => .bits 0x4700 0x0100
  | .noclassM2 _ _ => .bits 0x4700 0x0200
  | .noclassM3 _ _ => .bits 0x4700 0x0300
  | .noclassM6 _ _ => .bits 0x4700 0x0600
  | .pwmRcM4 _ _ => .bits 0x4700 0x0400
  | .pwmRcM5 _ _ => .bits 0x4700 0x0500
  | .pwmRcM7 _ _ => .bits 0x4700 0x0700
  | .comboPwmMode _ _ _ => .bits 0x4000 0x4000
  | .stdRedStop _ _ => .bits 0x4730 0x0100
  | .stdRedFwd _ _ => .bits 0x4730 0x0110
  | .stdRedBwd _ _ => .bits 0x4730 0x0120
  | .stdRedCode3 _ _ => .bits 0x4730 0x0130
  | .stdBlueStop _ _ => .bits 0x47C0 0x0100
  | .stdBlueFwd _ _ => .bits 0x47C0 0x0140
  | .stdBlueBwd _ _ => .bits 0x47C0 0x0180
  | .stdBlueCode3 _ _ => .bits 0x47C0 0x01C0
  | .pwmRedIncM4 _ => .bits 0x47F0 0x0440
  | .pwmRedDecM4 _ => .bits 0x47F0 0x0450
  | .pwmRedResetM4 _ => .bits 0x47F0 0x0480
  | .pwmRedOtherM4 _ _ => .bits 0x4700 0x0400
  | .pwmBlueIncM5 _ => .bits 0x47F0 0x0540
  | .pwmBlueDecM5 _ => .bits 0x47F0 0x0550
  | .pwmBlueResetM5 _ => .bits 0x47F0 0x0580
  | .pwmBlueOtherM5 _ _ => .bits 0x4700 0x0500
  | .pwmBlueIncM7 _ => .bits 0x47F0 0x0740
  | .pwmBlueDecM7 _ => .bits 0x47F0 0x0750
  | .pwmBlueResetM7 _ => .bits 0x47F0 0x0780
  | .pwmBlueOtherM7 _ _ => .bits 0x4700 0x0700
  | .fields _ => .bits 0x0000 0x0000
  | .checksumOk _ => .bits 0x0000 0x0000
  | .channel _ => .bits 0x0000 0x0000
  | .singleOutputPort _ => .bits 0x0000 0x0000
  | .redCommand _ => .bits 0x0000 0x0000
  | .blueCommand _ => .bits 0x0000 0x0000
  | .stateSignature _ => .bits 0x0000 0x0000
  | .redEffected _ => .bits 0x0000 0x0000
  | .blueEffected _ => .bits 0x0000 0x0000

/-- The family's statement. -/
def Statement (i : Instr) : Prop := i.wellFormed = true → Matches (table i) (encode i)

theorem window_of_symbol (dt : Nat) :
    (classify dt = .short → dt ≤ 316) ∧ (classify dt = .low → 317 ≤ dt ∧ dt ≤ 525) ∧
    (classify dt = .high → 526 ≤ dt ∧ dt ≤ 946) ∧ (classify dt = .ss → 947 ≤ dt ∧ dt ≤ 1559) ∧
    (classify dt = .long → 1560 ≤ dt) := by
  rw [classify_eq]
  refine ⟨?_, ?_, ?_, ?_, ?_⟩ <;> intro h <;> split_ifs at h <;> omega

/-- The masked bits of a frame's word, said through its fields. -/
theorem escape_bits (f : Frame) (he : f.escape = 1) : f.toBits &&& 0x4000 = 0x4000 := by
  obtain ⟨t, e, c, a, m, d, k⟩ := f
  simp only at he
  subst he
  apply BitVec.eq_of_getLsbD_eq
  intro i hi
  simp only [Frame.toBits, BitVec.getLsbD_and, BitVec.getLsbD_append]
  interval_cases i <;> simp

theorem mode_bits (f : Frame) {m : BitVec 3} (he : f.escape = 0) (hm : f.mode = m) :
    f.toBits &&& 0x4700 = m.setWidth 16 <<< 8 := by
  obtain ⟨t, e, c, a, m, d, k⟩ := f
  simp only at he hm
  subst he hm
  apply BitVec.eq_of_getLsbD_eq
  intro i hi
  simp only [Frame.toBits, BitVec.getLsbD_and, BitVec.getLsbD_append, BitVec.getLsbD_shiftLeft, BitVec.getLsbD_setWidth]
  interval_cases i <;> simp

theorem mode_data_bits (f : Frame) {m : BitVec 3} {d : BitVec 4} (he : f.escape = 0) (hm : f.mode = m) (hd : f.data = d) :
    f.toBits &&& 0x47F0 = (m.setWidth 16 <<< 8) ||| (d.setWidth 16 <<< 4) := by
  obtain ⟨t, e, c, a, m, d, k⟩ := f
  simp only at he hm hd
  subst he hm hd
  apply BitVec.eq_of_getLsbD_eq
  intro i hi
  simp only [Frame.toBits, BitVec.getLsbD_and, BitVec.getLsbD_append, BitVec.getLsbD_shiftLeft, BitVec.getLsbD_setWidth,
    BitVec.getLsbD_or]
  interval_cases i <;> simp

theorem mode_red_bits (f : Frame) {m : BitVec 3} {r : BitVec 2} (he : f.escape = 0) (hm : f.mode = m)
    (hr : redSub f.data = r) : f.toBits &&& 0x4730 = (m.setWidth 16 <<< 8) ||| (r.setWidth 16 <<< 4) := by
  obtain ⟨t, e, c, a, m, d, k⟩ := f
  simp only at he hm hr
  subst he hm hr
  apply BitVec.eq_of_getLsbD_eq
  intro i hi
  simp only [Frame.toBits, redSub, Config.stdRedLsb, BitVec.getLsbD_and, BitVec.getLsbD_append, BitVec.getLsbD_shiftLeft,
    BitVec.getLsbD_setWidth, BitVec.getLsbD_or, BitVec.getLsbD_extractLsb']
  interval_cases i <;> simp

theorem mode_blue_bits (f : Frame) {m : BitVec 3} {b : BitVec 2} (he : f.escape = 0) (hm : f.mode = m)
    (hb : blueSub f.data = b) : f.toBits &&& 0x47C0 = (m.setWidth 16 <<< 8) ||| (b.setWidth 16 <<< 6) := by
  obtain ⟨t, e, c, a, m, d, k⟩ := f
  simp only at he hm hb
  subst he hm hb
  apply BitVec.eq_of_getLsbD_eq
  intro i hi
  simp only [Frame.toBits, blueSub, Config.stdBlueLsb, BitVec.getLsbD_and, BitVec.getLsbD_append, BitVec.getLsbD_shiftLeft,
    BitVec.getLsbD_setWidth, BitVec.getLsbD_or, BitVec.getLsbD_extractLsb']
  interval_cases i <;> simp

theorem short (dt : Nat) : Statement (.short dt) := by
  intro h
  have := window_of_symbol dt
  simp_all [Instr.wellFormed, Matches, table, encode]

theorem long (dt : Nat) : Statement (.long dt) := by
  intro h
  have := window_of_symbol dt
  simp_all [Instr.wellFormed, Matches, table, encode]

theorem lowIdle (dt : Nat) : Statement (.lowIdle dt) := by
  intro h
  have := window_of_symbol dt
  simp_all [Instr.wellFormed, Matches, table, encode]

theorem highIdle (dt : Nat) : Statement (.highIdle dt) := by
  intro h
  have := window_of_symbol dt
  simp_all [Instr.wellFormed, Matches, table, encode]

theorem ssIdle (dt : Nat) : Statement (.ssIdle dt) := by
  intro h
  have := window_of_symbol dt
  simp_all [Instr.wellFormed, Matches, table, encode]

theorem ssSampling (dt : Nat) : Statement (.ssSampling dt) := by
  intro h
  have := window_of_symbol dt
  simp_all [Instr.wellFormed, Matches, table, encode]

theorem highSampling (dt : Nat) : Statement (.highSampling dt) := by
  intro h
  have := window_of_symbol dt
  simp_all [Instr.wellFormed, Matches, table, encode]

theorem lowSampling (dt : Nat) : Statement (.lowSampling dt) := by
  intro h
  have := window_of_symbol dt
  simp_all [Instr.wellFormed, Matches, table, encode]

theorem extendedMode (x : Header) (y : BitVec 4) : Statement (.extendedMode x y) := fun _ => (mode_bits (m := 0) _ rfl rfl).trans (by decide)

theorem standardRc (x : Header) (y : BitVec 4) : Statement (.standardRc x y) := fun _ => (mode_bits (m := 1) _ rfl rfl).trans (by decide)

theorem noclassM2 (x : Header) (y : BitVec 4) : Statement (.noclassM2 x y) := fun _ => (mode_bits (m := 2) _ rfl rfl).trans (by decide)

theorem noclassM3 (x : Header) (y : BitVec 4) : Statement (.noclassM3 x y) := fun _ => (mode_bits (m := 3) _ rfl rfl).trans (by decide)

theorem noclassM6 (x : Header) (y : BitVec 4) : Statement (.noclassM6 x y) := fun _ => (mode_bits (m := 6) _ rfl rfl).trans (by decide)

theorem pwmRcM4 (x : Header) (y : BitVec 4) : Statement (.pwmRcM4 x y) := fun _ => (mode_bits (m := 4) _ rfl rfl).trans (by decide)

theorem pwmRcM5 (x : Header) (y : BitVec 4) : Statement (.pwmRcM5 x y) := fun _ => (mode_bits (m := 5) _ rfl rfl).trans (by decide)

theorem pwmRcM7 (x : Header) (y : BitVec 4) : Statement (.pwmRcM7 x y) := fun _ => (mode_bits (m := 7) _ rfl rfl).trans (by decide)

theorem comboPwmMode (x : Header) (y : BitVec 3) (z : BitVec 4) : Statement (.comboPwmMode x y z) := fun _ => escape_bits _ rfl

theorem stdRedStop (x : Header) (y : BitVec 2) : Statement (.stdRedStop x y) := fun _ =>
  (mode_red_bits (m := 1) (x.frame 0 1 (stdData Config.stdCodeStop y)) rfl rfl (redSub_stdData _ _)).trans (by decide)

theorem stdRedFwd (x : Header) (y : BitVec 2) : Statement (.stdRedFwd x y) := fun _ =>
  (mode_red_bits (m := 1) (x.frame 0 1 (stdData Config.stdCodeFwd y)) rfl rfl (redSub_stdData _ _)).trans (by decide)

theorem stdRedBwd (x : Header) (y : BitVec 2) : Statement (.stdRedBwd x y) := fun _ =>
  (mode_red_bits (m := 1) (x.frame 0 1 (stdData Config.stdCodeBwd y)) rfl rfl (redSub_stdData _ _)).trans (by decide)

theorem stdRedCode3 (x : Header) (y : BitVec 2) : Statement (.stdRedCode3 x y) := fun _ =>
  (mode_red_bits (m := 1) (x.frame 0 1 (stdData Config.stdCode3 y)) rfl rfl (redSub_stdData _ _)).trans (by decide)

theorem stdBlueStop (x : Header) (y : BitVec 2) : Statement (.stdBlueStop x y) := fun _ =>
  (mode_blue_bits (m := 1) (x.frame 0 1 (stdData y Config.stdCodeStop)) rfl rfl (blueSub_stdData _ _)).trans (by decide)

theorem stdBlueFwd (x : Header) (y : BitVec 2) : Statement (.stdBlueFwd x y) := fun _ =>
  (mode_blue_bits (m := 1) (x.frame 0 1 (stdData y Config.stdCodeFwd)) rfl rfl (blueSub_stdData _ _)).trans (by decide)

theorem stdBlueBwd (x : Header) (y : BitVec 2) : Statement (.stdBlueBwd x y) := fun _ =>
  (mode_blue_bits (m := 1) (x.frame 0 1 (stdData y Config.stdCodeBwd)) rfl rfl (blueSub_stdData _ _)).trans (by decide)

theorem stdBlueCode3 (x : Header) (y : BitVec 2) : Statement (.stdBlueCode3 x y) := fun _ =>
  (mode_blue_bits (m := 1) (x.frame 0 1 (stdData y Config.stdCode3)) rfl rfl (blueSub_stdData _ _)).trans (by decide)

theorem pwmRedIncM4 (x : Header) : Statement (.pwmRedIncM4 x) := fun _ =>
  (mode_data_bits (m := 4) (d := 4) (x.frame 0 4 4) rfl rfl rfl).trans
    (by decide)

theorem pwmRedDecM4 (x : Header) : Statement (.pwmRedDecM4 x) := fun _ =>
  (mode_data_bits (m := 4) (d := 5) (x.frame 0 4 5) rfl rfl rfl).trans
    (by decide)

theorem pwmRedResetM4 (x : Header) : Statement (.pwmRedResetM4 x) := fun _ =>
  (mode_data_bits (m := 4) (d := 8) (x.frame 0 4 8) rfl rfl rfl).trans
    (by decide)

theorem pwmRedOtherM4 (x : Header) (y : BitVec 4) : Statement (.pwmRedOtherM4 x y) := fun _ => (mode_bits (m := 4) _ rfl rfl).trans (by decide)

theorem pwmBlueIncM5 (x : Header) : Statement (.pwmBlueIncM5 x) := fun _ =>
  (mode_data_bits (m := 5) (d := 4) (x.frame 0 5 4) rfl rfl rfl).trans
    (by decide)

theorem pwmBlueDecM5 (x : Header) : Statement (.pwmBlueDecM5 x) := fun _ =>
  (mode_data_bits (m := 5) (d := 5) (x.frame 0 5 5) rfl rfl rfl).trans
    (by decide)

theorem pwmBlueResetM5 (x : Header) : Statement (.pwmBlueResetM5 x) := fun _ =>
  (mode_data_bits (m := 5) (d := 8) (x.frame 0 5 8) rfl rfl rfl).trans
    (by decide)

theorem pwmBlueOtherM5 (x : Header) (y : BitVec 4) : Statement (.pwmBlueOtherM5 x y) := fun _ => (mode_bits (m := 5) _ rfl rfl).trans (by decide)

theorem pwmBlueIncM7 (x : Header) : Statement (.pwmBlueIncM7 x) := fun _ =>
  (mode_data_bits (m := 7) (d := 4) (x.frame 0 7 4) rfl rfl rfl).trans
    (by decide)

theorem pwmBlueDecM7 (x : Header) : Statement (.pwmBlueDecM7 x) := fun _ =>
  (mode_data_bits (m := 7) (d := 5) (x.frame 0 7 5) rfl rfl rfl).trans
    (by decide)

theorem pwmBlueResetM7 (x : Header) : Statement (.pwmBlueResetM7 x) := fun _ =>
  (mode_data_bits (m := 7) (d := 8) (x.frame 0 7 8) rfl rfl rfl).trans
    (by decide)

theorem pwmBlueOtherM7 (x : Header) (y : BitVec 4) : Statement (.pwmBlueOtherM7 x y) := fun _ => (mode_bits (m := 7) _ rfl rfl).trans (by decide)

theorem fields (x : Frame) : Statement (.fields x) := fun _ => BitVec.and_zero

theorem checksumOk (x : Frame) : Statement (.checksumOk x) := fun _ => BitVec.and_zero

theorem channel (x : Frame) : Statement (.channel x) := fun _ => BitVec.and_zero

theorem singleOutputPort (x : Frame) : Statement (.singleOutputPort x) := fun _ => BitVec.and_zero

theorem redCommand (x : Frame) : Statement (.redCommand x) := fun _ => BitVec.and_zero

theorem blueCommand (x : Frame) : Statement (.blueCommand x) := fun _ => BitVec.and_zero

theorem stateSignature (x : Frame) : Statement (.stateSignature x) := fun _ => BitVec.and_zero

theorem redEffected (x : Frame) : Statement (.redEffected x) := fun _ => BitVec.and_zero

theorem blueEffected (x : Frame) : Statement (.blueEffected x) := fun _ => BitVec.and_zero

end Sys2Proof.Laws.EncodingPattern
end

