-- ==== Sys2Proof/Machine/Stimulus.lean ====
section
/-!
DEFINITION. The stimulus notation (30_encoding.md R53, R54), its expansion to inter-edge times, and its realisation as captured
levels of `ir_in` (95_test_vectors.md P5).
-/

namespace Sys2Proof.Machine

/-- One item of a stimulus (30_encoding.md R53, R54). -/
inductive Item where
  | number (dt : Nat)
  | z
  | l
  | h
  | s
  | t
  | frame (v : Raw)
  | bits (bs : List Bool)
deriving DecidableEq, Repr

/-- The representative time of a bit symbol: `H` 711 for 1, `L` 421 for 0 (30_encoding.md R53). -/
def bitTime (b : Bool) : Nat := if b then 711 else 421

/-- The sixteen bits of a frame, bit 15 first (30_encoding.md R54). -/
def frameBits (v : Raw) : List Bool :=
  (List.range 16).map fun k => v.getLsbD (15 - k)

/-- The inter-edge times an item stands for (30_encoding.md R53, R54). -/
def Item.times : Item → List Nat
  | .number dt => [dt]
  | .z => [100]
  | .l => [421]
  | .h => [711]
  | .s => [1184]
  | .t => [2047]
  | .frame v => 1184 :: (frameBits v).map bitTime
  | .bits bs => bs.map bitTime

/-- The inter-edge times of a stimulus. -/
def stimulusTimes (items : List Item) : List Nat := items.flatMap Item.times

/-- Captured levels without reset: `n` clock edges with `ir_in` at one level. -/
def hold (n : Nat) (level : Bool) (f : Raw) : List Sample :=
  List.replicate n { rst := false, irIn := level, decFrame := f }

/-- One inter-edge time as captured levels, `n` clock edges of which the last `low` are low (95_test_vectors.md P5): the pin rises
and falls once. -/
def interval (n low : Nat) (f : Raw) : List Sample := hold (n - low) true f ++ hold low false f

end Sys2Proof.Machine
end

