-- ==== Sys2Proof/Tests/Slice0.lean ====
section
/-!
SUPPORT. The model's own tests. Expected values are from spec/opcode_table.json and from 95_test_vectors.md (tables V1 to V6, P5, S1
to S10, named at each test), worked from the rules there, never from the model. A `witness_<Name>` gives a concrete input that
meets all hypotheses of obligation <Name>.
-/

namespace Sys2Proof.Tests

open Sys2Proof.Machine

/-! Small states. -/

/-- A block with closed parameters: `CLK_PER_US` is `c`. -/
def base (c : Nat) : State :=
  { State.reset with build := { clkPerUs := c, stdCode3 := .backward, pwmOther := .notApplicable } }

/-- A demodulator state as the test vectors write it. -/
def demod (st : DemodState) (pos : Pos) (raw : Raw) : State := { base 1 with state := st, pos := pos, raw := raw }

/-- A falling edge about to be detected with this `DT` and `PRESC`. -/
def falling (c dt presc : Nat) (st : DemodState) (pos : Pos) (raw : Raw) : State :=
  { base c with
    state := st, pos := pos, raw := raw, dt := BitVec.ofNat 11 dt, presc := presc, sync2 := true, sync1 := false }

/-- Sampled high, no edge, no reset. -/
def high : Sample := { rst := false, irIn := true, decFrame := 0 }

/-- Sampled low, no reset. -/
def low : Sample := { rst := false, irIn := false, decFrame := 0 }

/-- The state of an outcome, for the cases that have one. -/
def nextOf : Host.Outcome State Fault Refusal → State
  | .next s => s
  | .fault _ => State.reset
  | .refused _ => State.reset

/-- `STATE`, `POS`, `RAW` and the strobe after an outcome. -/
def seen : Host.Outcome State Fault Refusal → Option (DemodState × Pos × Raw × Bool)
  | .next s => some (s.state, s.pos, s.raw, s.frameValid)
  | .fault _ => none
  | .refused _ => none

/-- A part of the decoder's wires after an outcome. -/
def wires {α : Type} (g : DecoderOut → α) : Host.Outcome State Fault Refusal → Option α
  | .next s => some (g s.out)
  | .fault _ => none
  | .refused _ => none

/-! Well-formedness refuses each ill-formed term. -/

theorem test_wf_refuses_short : (Instr.short 317).wellFormed = false ∧ (Instr.short 316).wellFormed = true := by decide

theorem test_wf_refuses_long : (Instr.long 1559).wellFormed = false ∧ (Instr.long 1560).wellFormed = true := by decide

theorem test_wf_refuses_low_idle :
    (Instr.lowIdle 316).wellFormed = false ∧ (Instr.lowIdle 526).wellFormed = false ∧
    (Instr.lowIdle 317).wellFormed = true := by decide

theorem test_wf_refuses_high_idle :
    (Instr.highIdle 525).wellFormed = false ∧ (Instr.highIdle 947).wellFormed = false ∧
    (Instr.highIdle 526).wellFormed = true := by decide

theorem test_wf_refuses_ss_idle :
    (Instr.ssIdle 946).wellFormed = false ∧ (Instr.ssIdle 1560).wellFormed = false ∧
    (Instr.ssIdle 947).wellFormed = true := by decide

theorem test_wf_refuses_ss_sampling :
    (Instr.ssSampling 946).wellFormed = false ∧ (Instr.ssSampling 1560).wellFormed = false ∧
    (Instr.ssSampling 1559).wellFormed = true := by decide

theorem test_wf_refuses_high_sampling :
    (Instr.highSampling 525).wellFormed = false ∧ (Instr.highSampling 947).wellFormed = false ∧
    (Instr.highSampling 946).wellFormed = true := by decide

theorem test_wf_refuses_low_sampling :
    (Instr.lowSampling 316).wellFormed = false ∧ (Instr.lowSampling 526).wellFormed = false ∧
    (Instr.lowSampling 525).wellFormed = true := by decide

theorem test_wf_refuses_named_pwm_data :
    (Instr.pwmRedOtherM4 ⟨0, 0, 0, 0⟩ 0x4).wellFormed = false ∧
    (Instr.pwmBlueOtherM5 ⟨0, 0, 0, 0⟩ 0x5).wellFormed = false ∧
    (Instr.pwmBlueOtherM7 ⟨0, 0, 0, 0⟩ 0x8).wellFormed = false ∧
    (Instr.pwmBlueOtherM7 ⟨0, 0, 0, 0⟩ 0x1).wellFormed = true := by decide

/-! Decoding. -/

/-- The eight symbol rows at the ends of their windows (spec/opcode_table.json, `dt_min` and `dt_max`). -/
theorem test_decode_symbols :
    decode .idle (.sym 0) = [.short 0] ∧ decode .sampling (.sym 316) = [.short 316] ∧
    decode .idle (.sym 317) = [.lowIdle 317] ∧ decode .sampling (.sym 525) = [.lowSampling 525] ∧
    decode .idle (.sym 526) = [.highIdle 526] ∧ decode .sampling (.sym 946) = [.highSampling 946] ∧
    decode .idle (.sym 947) = [.ssIdle 947] ∧ decode .sampling (.sym 1559) = [.ssSampling 1559] ∧
    decode .idle (.sym 1560) = [.long 1560] ∧ decode .sampling (.sym 100000) = [.long 100000] := by decide

/-- The nine class rows: words from the row's encoding string in spec/opcode_table.json. -/
theorem test_decode_classes :
    Instr.extendedMode ⟨1, 2, 0, 6⟩ 11 ∈ decode .idle (.frame 0b1010000010110110) ∧
    Instr.standardRc ⟨0, 1, 1, 9⟩ 11 ∈ decode .idle (.frame 0b0001100110111001) ∧
    Instr.noclassM2 ⟨1, 3, 0, 5⟩ 11 ∈ decode .idle (.frame 0b1011001010110101) ∧
    Instr.noclassM3 ⟨0, 2, 1, 10⟩ 11 ∈ decode .idle (.frame 0b0010101110111010) ∧
    Instr.noclassM6 ⟨1, 2, 0, 6⟩ 11 ∈ decode .idle (.frame 0b1010011010110110) ∧
    Instr.pwmRcM4 ⟨0, 1, 1, 9⟩ 11 ∈ decode .idle (.frame 0b0001110010111001) ∧
    Instr.pwmRcM5 ⟨1, 3, 0, 5⟩ 11 ∈ decode .idle (.frame 0b1011010110110101) ∧
    Instr.pwmRcM7 ⟨0, 2, 1, 10⟩ 11 ∈ decode .idle (.frame 0b0010111110111010) ∧
    Instr.comboPwmMode ⟨1, 2, 0, 6⟩ 6 11 ∈ decode .idle (.frame 0b1110011010110110) := by decide

/-- The eight standard_rc command rows: words from the row's encoding string in spec/opcode_table.json. -/
theorem test_decode_standard_commands :
    Instr.stdRedStop ⟨0, 1, 1, 9⟩ 2 ∈ decode .idle (.frame 0b0001100110001001) ∧
    Instr.stdRedFwd ⟨1, 3, 0, 5⟩ 2 ∈ decode .idle (.frame 0b1011000110010101) ∧
    Instr.stdRedBwd ⟨0, 2, 1, 10⟩ 2 ∈ decode .idle (.frame 0b0010100110101010) ∧
    Instr.stdRedCode3 ⟨1, 2, 0, 6⟩ 2 ∈ decode .idle (.frame 0b1010000110110110) ∧
    Instr.stdBlueStop ⟨0, 1, 1, 9⟩ 2 ∈ decode .idle (.frame 0b0001100100101001) ∧
    Instr.stdBlueFwd ⟨1, 3, 0, 5⟩ 2 ∈ decode .idle (.frame 0b1011000101100101) ∧
    Instr.stdBlueBwd ⟨0, 2, 1, 10⟩ 2 ∈ decode .idle (.frame 0b0010100110101010) ∧
    Instr.stdBlueCode3 ⟨1, 2, 0, 6⟩ 2 ∈ decode .idle (.frame 0b1010000111100110) := by decide

/-- The twelve pwm_rc command rows: words from the row's encoding string in spec/opcode_table.json. -/
theorem test_decode_pwm_commands :
    Instr.pwmRedIncM4 ⟨0, 1, 1, 9⟩ ∈ decode .idle (.frame 0b0001110001001001) ∧
    Instr.pwmRedDecM4 ⟨1, 3, 0, 5⟩ ∈ decode .idle (.frame 0b1011010001010101) ∧
    Instr.pwmRedResetM4 ⟨0, 2, 1, 10⟩ ∈ decode .idle (.frame 0b0010110010001010) ∧
    Instr.pwmRedOtherM4 ⟨1, 2, 0, 6⟩ 2 ∈ decode .idle (.frame 0b1010010000100110) ∧
    Instr.pwmBlueIncM5 ⟨0, 1, 1, 9⟩ ∈ decode .idle (.frame 0b0001110101001001) ∧
    Instr.pwmBlueDecM5 ⟨1, 3, 0, 5⟩ ∈ decode .idle (.frame 0b1011010101010101) ∧
    Instr.pwmBlueResetM5 ⟨0, 2, 1, 10⟩ ∈ decode .idle (.frame 0b0010110110001010) ∧
    Instr.pwmBlueOtherM5 ⟨1, 2, 0, 6⟩ 2 ∈ decode .idle (.frame 0b1010010100100110) ∧
    Instr.pwmBlueIncM7 ⟨0, 1, 1, 9⟩ ∈ decode .idle (.frame 0b0001111101001001) ∧
    Instr.pwmBlueDecM7 ⟨1, 3, 0, 5⟩ ∈ decode .idle (.frame 0b1011011101010101) ∧
    Instr.pwmBlueResetM7 ⟨0, 2, 1, 10⟩ ∈ decode .idle (.frame 0b0010111110001010) ∧
    Instr.pwmBlueOtherM7 ⟨1, 2, 0, 6⟩ 2 ∈ decode .idle (.frame 0b1010011100100110) := by decide

/-- The nine function rows hold of every frame: 0x9A37 is 1001 1010 0011 0111, fields of table V3. -/
theorem test_decode_functions :
    let f : Frame := { toggle := 1, escape := 0, channel := 1, address := 1, mode := 2, data := 3, checksum := 7 }
    [Instr.fields f, .checksumOk f, .channel f, .singleOutputPort f, .redCommand f, .blueCommand f, .stateSignature f,
      .redEffected f, .blueEffected f].all (fun i => decide (i ∈ decode .idle (.frame 0b1001101000110111))) = true := by
  decide

/-- Every row of 0x011F, and of 0x064D, which has no command row (30_encoding.md section 3). -/
theorem test_decode_all_rows :
    (decode .idle (.frame 0x011F)).take 3 =
      [.standardRc ⟨0, 0, 0, 0xF⟩ 1, .stdRedFwd ⟨0, 0, 0, 0xF⟩ 0, .stdBlueStop ⟨0, 0, 0, 0xF⟩ 1] ∧
    (decode .idle (.frame 0x011F)).length = 12 ∧ (decode .idle (.frame 0x064D)).length = 10 := by decide

/-- What the host's two entry points see after reset. -/
theorem test_decode_table_words :
    decodeTableWord 16 0x0480 = some (.pwmRedResetM4 ⟨0, 0, 0, 0⟩) ∧ decodeTableWord 0 421 = some (.lowIdle 421) ∧
    decodeTableWord 8 0x00 = none := by decide

/-- The encoder writes the words of table V4. -/
theorem test_encode_words :
    encode (.stdBlueBwd ⟨1, 3, 0, 0xD⟩ 0) = .frame 0xB18D ∧ encode (.pwmBlueResetM7 ⟨1, 2, 0, 0xA⟩) = .frame 0xA78A ∧
    encode (.comboPwmMode ⟨0, 0, 0, 0xB⟩ 4 4) = .frame 0x444B ∧ encode (.ssIdle 947) = .sym 947 := by decide

/-! The symbol rows (table V2). -/

theorem test_short :
    seen (exec (.short 316) (demod .sampling 9 0x0100)) = some (.idle, 9, 0x0100, false) := by decide

theorem test_long :
    seen (exec (.long 1560) (demod .sampling 0 0x011E)) = some (.idle, 0, 0x011E, false) := by decide

theorem test_bits_in_idle :
    seen (exec (.lowIdle 421) (demod .idle 15 0)) = some (.idle, 15, 0, false) ∧
    seen (exec (.highIdle 946) (demod .idle 12 0xC000)) = some (.idle, 12, 0xC000, false) := by decide

theorem test_ss_idle : seen (exec (.ssIdle 1559) (demod .idle 3 0xBEEF)) = some (.sampling, 15, 0, false) := by decide

theorem test_ss_sampling :
    seen (exec (.ssSampling 947) (demod .sampling 0 0xFFFE)) = some (.sampling, 15, 0, false) := by decide

theorem test_high_sampling_middle :
    seen (exec (.highSampling 711) (demod .sampling 8 0)) = some (.sampling, 7, 0x0100, false) := by decide

theorem test_high_sampling_last :
    seen (exec (.highSampling 711) (demod .sampling 0 0x011E)) = some (.idle, 15, 0x011F, true) := by decide

theorem test_low_sampling_first :
    seen (exec (.lowSampling 525) (demod .sampling 15 0)) = some (.sampling, 14, 0, false) := by decide

theorem test_low_sampling_last :
    seen (exec (.lowSampling 317) (demod .sampling 0 0x011E)) = some (.idle, 15, 0x011E, true) := by decide

/-- Events at the four thresholds (program P4) and on both sides of them. -/
theorem test_event_thresholds :
    [(316, demod .sampling 11 0x3000), (317, demod .sampling 15 0), (526, demod .sampling 13 0), (946, demod .idle 15 0),
        (947, demod .idle 15 0), (1560, demod .idle 3 0xBEEF)].map (fun x => seen (eventStep x.1 x.2)) =
      [some (.idle, 11, 0x3000, false), some (.sampling, 14, 0, false), some (.sampling, 12, 0x2000, false),
        some (.idle, 15, 0, false), some (.sampling, 15, 0, false), some (.idle, 3, 0xBEEF, false)] := by decide

/-! The decoder's rows on a state whose wires show another frame (table V4). -/

theorem test_classes :
    wires (fun o => (o.isExtendedMode, o.isStandardRc, o.isPwmRc, o.isComboPwmMode))
      (exec (.extendedMode ⟨0, 1, 1, 5⟩ 3) (base 1)) = some (true, false, false, false) ∧
    wires (fun o => (o.isExtendedMode, o.isStandardRc, o.isPwmRc, o.isComboPwmMode))
      (exec (.standardRc ⟨0, 0, 0, 0xF⟩ 1) (base 1)) = some (false, true, false, false) ∧
    wires (fun o => (o.isExtendedMode, o.isStandardRc, o.isPwmRc, o.isComboPwmMode))
      (exec (.noclassM6 ⟨0, 0, 0, 0xD⟩ 4) (base 1)) = some (false, false, false, false) ∧
    wires (fun o => (o.isExtendedMode, o.isStandardRc, o.isPwmRc, o.isComboPwmMode))
      (exec (.pwmRcM5 ⟨0, 0, 0, 0xE⟩ 4) (base 1)) = some (false, false, true, false) ∧
    wires (fun o => (o.isExtendedMode, o.isStandardRc, o.isPwmRc, o.isComboPwmMode))
      (exec (.comboPwmMode ⟨0, 0, 0, 0xB⟩ 4 4) (base 1)) = some (false, false, false, true) := by decide

theorem test_standard_commands :
    wires (fun o => (o.redCommand, o.blueCommand)) (exec (.stdRedFwd ⟨0, 0, 0, 0xF⟩ 0) (base 1)) =
      some (.forward, .notApplicable) ∧
    wires (fun o => (o.redCommand, o.blueCommand)) (exec (.stdBlueBwd ⟨1, 3, 0, 0xD⟩ 0) (base 1)) =
      some (.notApplicable, .backward) ∧
    wires (fun o => (o.redCommand, o.blueCommand)) (exec (.stdRedCode3 ⟨0, 1, 0, 0xC⟩ 0) (base 1)) =
      some (.backward, .notApplicable) := by decide

theorem test_pwm_commands :
    wires (fun o => (o.redCommand, o.blueCommand)) (exec (.pwmRedDecM4 ⟨0, 0, 0, 0xE⟩) (base 1)) =
      some (.decrease, .notApplicable) ∧
    wires (fun o => (o.redCommand, o.blueCommand)) (exec (.pwmBlueIncM5 ⟨0, 0, 0, 0xE⟩) (base 1)) =
      some (.notApplicable, .increase) ∧
    wires (fun o => (o.redCommand, o.blueCommand)) (exec (.pwmBlueResetM7 ⟨1, 2, 0, 0xA⟩) (base 1)) =
      some (.notApplicable, .reset) := by decide

/-- Field extraction (table V3). -/
theorem test_fields :
    wires (fun o => (o.fldToggle, o.fldEscape, o.fldChannel, o.fldAddress, o.fldMode, o.fldData, o.fldChecksum))
      (exec (.fields (Frame.ofBits 0xB18D)) (base 1)) = some (1, 0, 3, 0, 1, 0x8, 0xD) ∧
    wires (fun o => (o.fldToggle, o.fldEscape, o.fldChannel, o.fldAddress, o.fldMode, o.fldData, o.fldChecksum))
      (exec (.fields (Frame.ofBits 0x9A37)) (base 1)) = some (1, 0, 1, 1, 2, 0x3, 0x7) ∧
    wires (·.fldChannel) (exec (.channel (Frame.ofBits 0xA78A)) (base 1)) = some 2 := by decide

/-- The checksum fixtures of S1. -/
theorem test_checksum :
    [0x011F, 0x054E, 0x000F, 0xFFF0, 0x9A3F].all (fun w => checksumOk (Frame.ofBits w)) = true ∧
    [0x011E, 0x111F, 0x0000, 0xFFFF, 0x9A37].all (fun w => !checksumOk (Frame.ofBits w)) = true ∧
    wires (·.checksumOk) (exec (.checksumOk (Frame.ofBits 0x011F)) (base 1)) = some true := by decide

/-- The signatures of table V5. -/
theorem test_signature :
    [0x011F, 0x8117, 0x054E, 0x0168, 0x055F, 0x074C, 0x064D, 0x045E].map (fun w => stateSignature (Frame.ofBits w)) =
      [0x18, 0x19, 0x68, 0x68, 0x78, 0x78, 0x70, 0x70] ∧
    wires (·.stateSignature) (exec (.stateSignature (Frame.ofBits 0xFFF0)) (base 1)) = some 0xF9 := by decide

/-- Port, commands and effected flags (table V4). -/
theorem test_functions :
    [0x011F, 0x044F, 0x054E, 0x064D, 0x03F3, 0x411B].map (fun w =>
        let o := (nextOf (settleDecoder { base 1 with decFrame := w })).out
        (o.singleOutputPort, o.redCommand, o.blueCommand, o.redEffected, o.blueEffected)) =
      [(1, .forward, .stop, true, true), (0, .increase, .notApplicable, true, false),
        (1, .notApplicable, .increase, false, true), (0, .notApplicable, .notApplicable, true, false),
        (1, .notApplicable, .notApplicable, false, true), (1, .notApplicable, .notApplicable, false, true)] := by decide

/-- A whole row of table V4: 0xA78A. -/
theorem test_decoder_row :
    decoderOut (base 1).build (Frame.ofBits 0xA78A) =
      { fldToggle := 1, fldEscape := 0, fldChannel := 2, fldAddress := 0, fldMode := 7, fldData := 8, fldChecksum := 0xA
        checksumOk := true, isStandardRc := false, isPwmRc := true, isExtendedMode := false, isComboPwmMode := false
        singleOutputPort := 1, redCommand := .notApplicable, blueCommand := .reset, redEffected := false
        blueEffected := true, stateSignature := 0xB9 } := by decide

/-! One clock edge. -/

/-- Table V6: `dt_now` after `N` edges; before the last one `DT` is `(N - 1) / c` and `PRESC` is `(N - 1) % c`. -/
theorem test_time_measurement :
    dtNow (falling 1 315 0 .idle 15 0) = 316 ∧ dtNow (falling 1 316 0 .idle 15 0) = 317 ∧
    dtNow (falling 4 946 2 .idle 15 0) = 946 ∧ dtNow (falling 4 946 3 .idle 15 0) = 947 ∧
    dtNow (falling 16 525 14 .idle 15 0) = 525 ∧ dtNow (falling 16 525 15 .idle 15 0) = 526 ∧
    dtNow (falling 1 2047 0 .idle 15 0) = 2047 := by decide

/-- P5, events 2, 10 and 18: one clock edge with a detected edge. -/
theorem test_step_detected_edge :
    seen (step (falling 1 1183 0 .idle 15 0)) = some (.sampling, 15, 0, false) ∧
    seen (step (falling 1 710 0 .sampling 8 0)) = some (.sampling, 7, 0x0100, false) ∧
    seen (step (falling 1 710 0 .sampling 0 0x011E)) = some (.idle, 15, 0x011F, true) := by decide

/-- P5: the counter is cleared at the detected edge, counts 1 after the edge that follows, and the strobe lasts one cycle. -/
theorem test_step_after_edge :
    let t := nextOf (step (falling 1 710 0 .sampling 0 0x011E))
    t.dt = 0 ∧ t.presc = 0 ∧ (nextOf (step t)).dt = 1 ∧ (nextOf (step t)).frameValid = false ∧
    (nextOf (step t)).raw = 0x011F := by decide

/-- P5, edges 1 to 3: the synchroniser after reset with the pin high. -/
theorem test_step_synchroniser :
    let t1 := nextOf (step { base 1 with stimulus := [high, high, high] })
    let t2 := nextOf (step t1)
    let t3 := nextOf (step t2)
    (t1.sync0, t1.sync1, t1.sync2) = (true, false, false) ∧ (t2.sync0, t2.sync1, t2.sync2) = (true, true, false) ∧
    (t3.sync0, t3.sync1, t3.sync2) = (true, true, true) ∧ fall t3 = false ∧ t3.dt = 2047 := by decide

/-- P6 (a): reset in the middle of a frame, over a detected edge. -/
theorem test_step_reset :
    let t := nextOf (step { falling 1 700 0 .sampling 5 0xAA00 with
      stimulus := [{ rst := true, irIn := true, decFrame := 0x011F }] })
    (t.state, t.pos, t.raw, t.dt, t.presc) = (.idle, 15, 0, 2047, 0) ∧ t.sync2 = false ∧ t.sync0 = false ∧
    t.out.isStandardRc = true := by decide

/-- 70_reset_and_hazards.md R180: before the first reset the decoder shows 0x011F (table V4), and the edge is no reset. -/
theorem test_step_before_reset :
    let t := nextOf (step { base 1 with wasReset := false, decFrame := 0x011F })
    t.out.redCommand = .forward ∧ t.out.blueCommand = .stop ∧ t.out.checksumOk = true ∧ t.wasReset = false ∧
    t.draws = 1 := by decide

/-- 70_reset_and_hazards.md R180: one edge with `rst == 1` then gives the registers their reset values, as from any state. -/
theorem test_step_first_reset :
    let t := nextOf (step { base 1 with
      wasReset := false, stimulus := [{ low with decFrame := 0x011F }, { rst := true, irIn := true, decFrame := 0x011F }] })
    seen (step t) = some (.idle, 15, 0, false) ∧ (nextOf (step t)).dt = 2047 ∧ (nextOf (step t)).wasReset = true := by
  decide

/-- P2: in the direct wiring the decoder shows the frame in its `frame_valid` cycle. -/
theorem test_step_direct :
    let t := nextOf (step { falling 1 420 0 .sampling 0 0x054E with wiring := .direct })
    frameOffered t = some 0x054E ∧ t.out.isPwmRc = true ∧ t.out.blueCommand = .increase ∧ t.out.stateSignature = 0x68 := by
  decide

/-- The words the host places after reset run at the very next step. -/
theorem test_fetch_words :
    (nextOf (step (State.reset.withFetchWord 16 0x064D))).out.stateSignature = 0x70 ∧
    seen (step (State.reset.withFetchWord 0 947)) = some (.sampling, 15, 0, false) ∧
    seen (step (State.reset.withFetchWord 0 946)) = some (.idle, 15, 0, false) := by decide

/-! The stimulus and the environment. -/

/-- Program P1: its 20 times. -/
theorem test_stimulus :
    stimulusTimes [.t, .frame 0x011F, .s, .t] =
      [2047, 1184, 421, 421, 421, 421, 421, 421, 421, 711, 421, 421, 421, 711, 711, 711, 711, 711, 1184, 2047] := by
  decide

/-- All five slots of a channel taken. -/
def allHandlers : Handlers :=
  { generic := true, redEffected := true, blueEffected := true, redChanged := true, blueChanged := true }

/-- The environment at its defaults with these handlers on every channel. -/
def env (h : Handlers) : Env := { Env.initial with handlers := Vector.replicate 4 h }

/-- No handler marks anything. -/
def unmarked : Marks := fun _ _ _ => false

/-- The generic handler marks 0x011F and no other frame. -/
def marks011F : Marks := fun slot f _ => slot == .generic && f == 0x011F

/-- S7: standard_rc red forward, blue stop. -/
theorem test_env_standard :
    let r := (env allHandlers).dispatch (base 1).build unmarked 0x011F
    (r.1.stateForChannel 0).map (fun c => (c.red.actualStep, c.blue.actualStep, c.previousSignature)) =
      some (7, 0, 0x18) ∧
    r.2.map Call.slot = [.generic, .redEffected, .blueEffected, .redChanged] := by decide

/-- S8: pwm_rc blue increase. -/
theorem test_env_pwm :
    let r := (env allHandlers).dispatch (base 1).build unmarked 0x054E
    (r.1.stateForChannel 0).map (fun c => (c.red.actualStep, c.blue.actualStep)) = some (0, 1) ∧
    r.2.map Call.slot = [.generic, .blueEffected, .blueChanged] := by decide

/-- S4: the retransmission is discarded, the toggled frame is not. -/
theorem test_env_redundancy :
    (dispatchAll (base 1).build (fun _ => unmarked) [0x011F, 0x011F] (env allHandlers)).2.length = 4 ∧
    ((dispatchAll (base 1).build (fun _ => unmarked) [0x011F, 0x8117] (env allHandlers)).2.map Call.slot).drop 4 =
      [.generic, .redEffected, .blueEffected] := by decide

/-- S6: the generic handler marks the first frame and not the second; the step of the marked frame stands. -/
theorem test_env_short_circuit :
    let r := dispatchAll (base 1).build (fun _ => marks011F) [0x011F, 0x8117] (env allHandlers)
    r.2.map (fun c => (c.slot, c.frame)) =
      [(.generic, 0x011F), (.generic, 0x8117), (.redEffected, 0x8117), (.blueEffected, 0x8117)] ∧
    (r.1.stateForChannel 0).map (·.red.actualStep) = some 7 := by decide

/-- S5: the clamp at `+steps`. -/
theorem test_env_clamp :
    SubChannel.apply .increase { actualStep := 7, steps := 7, alternativeMode := false } =
      { actualStep := 7, steps := 7, alternativeMode := false } ∧
    SubChannel.apply .decrease { actualStep := -7, steps := 7, alternativeMode := false } =
      { actualStep := -7, steps := 7, alternativeMode := false } := by decide

/-- S9 and S10: out-of-range steps fail; the first frame with signature 0x00 is suppressed. -/
theorem test_env_edges :
    (env allHandlers).setSteps 1 200 5 = none ∧
    (env allHandlers).dispatch (base 1).build unmarked 0x000F = (env allHandlers, []) ∧
    (env allHandlers).dispatch (base 1).build unmarked 0x400B = (env allHandlers, []) := by decide

/-- The queue: arrival order, and the newest frame dropped when a bounded one is full (42_downstream_reference.md R131, R133). -/
theorem test_env_queue :
    (((Env.initial.enqueue 1).enqueue 2).dequeue).map (·.1) = some 1 ∧
    ((({ Env.initial with capacity := some 1 }).enqueue 1).enqueue 2).queue = [1] := by decide

/-- 0x011F is offered in the cycle that pops the last entry: both take effect (42_downstream_reference.md R132). -/
theorem test_env_pop_and_push :
    let r := ({ Env.initial with queue := [0x054E] }).popAndCapture { demod .idle 15 0x011F with frameValid := true }
    r.1 = some 0x054E ∧ r.2.queue = [0x011F] := by decide

/-- `value()` at the ends of both ranges (42_downstream_reference.md R144). -/
theorem test_env_value :
    SubChannel.value { actualStep := 7, steps := 7, alternativeMode := false } = 255 ∧
    SubChannel.value { actualStep := -7, steps := 7, alternativeMode := false } = -255 ∧
    SubChannel.value { actualStep := 0, steps := 7, alternativeMode := true } = 0 := by decide

/-- An inter-edge time as captured levels: high, then low, as long as the time. -/
theorem test_interval : (interval 5 2 0).map Sample.irIn = [true, true, true, false, false] := by decide

/-! Witnesses: for each obligation with hypotheses, a concrete input that meets them, one for each clause. -/

/-- The next state of a step. -/
theorem next_of_step (s : State) : step s = .next (nextOf (step s)) := by
  obtain ⟨u, hu⟩ := step_completes s
  rw [hu]; rfl

/-- The last bit of 0x011F about to be detected. -/
def lastBit : State := falling 1 710 0 .sampling 0 0x011E

theorem witness_TimingErrorForcesIdle :
    (316 ≤ 316 ∧ 1560 ≤ 1560) ∧ seen (exec (.short 316) (demod .sampling 0 1)) = some (.idle, 0, 1, false) := by decide

theorem witness_BitSymbolInIdleChangesNothing :
    (demod .idle 12 0xC000).state = .idle ∧ (317 ≤ 525 ∧ 525 ≤ 525) ∧ (526 ≤ 526 ∧ 526 ≤ 946) := by decide

theorem witness_StartPulseOpensFrame :
    (demod .idle 3 0xBEEF).state = .idle ∧ 947 ≤ 947 ∧ 947 ≤ 1559 := by decide

theorem witness_EarlyStartRestartsFrame :
    (demod .sampling 0 0xFFFE).state = .sampling ∧ 947 ≤ 1559 ∧ 1559 ≤ 1559 := by decide

theorem witness_HighSymbolTakesOneBit :
    (demod .sampling 1 0x011C).state = .sampling ∧ 526 ≤ 946 ∧ 946 ≤ 946 ∧ (demod .sampling 1 0x011C).pos.toNat ≠ 0 := by
  decide

theorem witness_HighSymbolTakesOneBit_last :
    (demod .sampling 0 0x011E).state = .sampling ∧ 526 ≤ 526 ∧ 526 ≤ 946 ∧ (demod .sampling 0 0x011E).pos.toNat = 0 := by
  decide

theorem witness_LowSymbolTakesZeroBit :
    (demod .sampling 15 0).state = .sampling ∧ 317 ≤ 525 ∧ 525 ≤ 525 ∧ (demod .sampling 15 0).pos.toNat ≠ 0 := by decide

theorem witness_LowSymbolTakesZeroBit_last :
    (demod .sampling 0 0).state = .sampling ∧ 317 ≤ 317 ∧ 317 ≤ 525 ∧ (demod .sampling 0 0).pos.toNat = 0 := by decide

theorem witness_SymbolRowFrame : ∃ t, exec (.highSampling 711) (demod .sampling 8 0) = .next t ∧ t.raw = 0x0100 ∧
    Instr.highSampling 711 ∈ [Instr.short 711, .long 711, .lowIdle 711, .highIdle 711, .ssIdle 711, .ssSampling 711,
      .highSampling 711, .lowSampling 711] := ⟨_, rfl, by decide, by decide⟩

theorem witness_SymbolRowFrame_lists :
    Instr.short 0 ∈ [Instr.short 0, .long 0, .lowIdle 0, .highIdle 0, .lowSampling 0] ∧
    Instr.lowIdle 0 ∈ [Instr.short 0, .long 0, .lowIdle 0, .highIdle 0] ∧
    Instr.ssSampling 0 ∈ [Instr.lowIdle 0, .highIdle 0, .ssSampling 0] ∧
    Instr.ssIdle 0 ∉ [Instr.highSampling 0, .lowSampling 0] := by decide

theorem witness_StartPulseSynchronisesFromAnyState : (947 ≤ 947 ∧ 947 ≤ 1559) ∧ (947 ≤ 1559 ∧ 1559 ≤ 1559) := by decide

/-- The sixteen bit symbols of 0x011F. -/
def bits011F : List Nat := (frameBits 0x011F).map bitTime

theorem witness_SixteenBitSymbolsAssembleOneFrame :
    (947 ≤ 1184 ∧ 1184 ≤ 1559) ∧ bits011F.length = 16 ∧ ∀ d ∈ bits011F, 317 ≤ d ∧ d ≤ 946 := by decide

/-- The state and the frames of a run of events. -/
def runOf : Host.Outcome (State × List Raw) Fault Refusal → State × List Raw
  | .next p => p
  | .fault _ => (State.reset, [])
  | .refused _ => (State.reset, [])

theorem witness_FrameNeedsStartPulseAndSixteenBits :
    ∃ m vs t, (demod .idle 15 0).state = .idle ∧ eventRun (1184 :: bits011F.take 15) (demod .idle 15 0) = .next (m, vs) ∧
      eventStep 711 m = .next t ∧ t.frameValid = true :=
  ⟨(runOf (eventRun (1184 :: bits011F.take 15) (demod .idle 15 0))).1, [],
    nextOf (eventStep 711 (runOf (eventRun (1184 :: bits011F.take 15) (demod .idle 15 0))).1), by decide, rfl, rfl,
    by decide⟩

theorem witness_EmissionsAreSpaced :
    ∃ s m vs t, eventStep 711 (demod .sampling 0 0x011E) = .next s ∧ s.frameValid = true ∧
      eventRun (1184 :: bits011F.take 15) s = .next (m, vs) ∧ eventStep 711 m = .next t ∧ t.frameValid = true :=
  ⟨nextOf (eventStep 711 (demod .sampling 0 0x011E)),
    (runOf (eventRun (1184 :: bits011F.take 15) (nextOf (eventStep 711 (demod .sampling 0 0x011E))))).1, [],
    nextOf (eventStep 711
      (runOf (eventRun (1184 :: bits011F.take 15) (nextOf (eventStep 711 (demod .sampling 0 0x011E))))).1),
    rfl, by decide, rfl, rfl, by decide⟩

theorem witness_ResetEdgeTakesResetValues :
    (sampleInputs { lastBit with wasReset := false, stimulus := [{ rst := true, irIn := true, decFrame := 0 }] }).rst =
      true := by decide

/-- The last bit of 0x011F about to be detected, before the first reset. -/
def neverReset : State := { lastBit with wasReset := false, decFrame := 0xB18D }

theorem witness_OnlyTheDecoderHasMeaningBeforeFirstReset :
    neverReset.wasReset = false ∧ (sampleInputs neverReset).rst = false ∧ neverReset.wiring = .separate ∧
    (nextOf (step neverReset)).out.blueCommand = .backward := by decide

theorem witness_StepRunsTheDetectedSymbolRow :
    lastBit.wasReset = true ∧ (sampleInputs lastBit).rst = false ∧ lastBit.sync2 = true ∧ lastBit.sync1 = false := by decide

theorem witness_StepRunsEveryRowOfTheFrame :
    ∃ u, step { lastBit with decFrame := 0xB18D } = .next u ∧ ({ lastBit with decFrame := 0xB18D }).wiring = .separate ∧
      (sampleInputs { lastBit with decFrame := 0xB18D }).rst = false ∧ u.out ≠ lastBit.out :=
  ⟨_, next_of_step _, rfl, by decide, by decide⟩

theorem witness_StepRunsEveryRowOfTheFrame_reset :
    ∃ u, step { lastBit with wiring := .direct, stimulus := [{ rst := true, irIn := true, decFrame := 0xB18D }] } = .next u ∧
      (sampleInputs
        { lastBit with wiring := .direct, stimulus := [{ rst := true, irIn := true, decFrame := 0xB18D }] }).rst = true ∧
      u.decFrame = 0 :=
  ⟨_, next_of_step _, by decide, by decide⟩

theorem witness_StepRunsEveryRowOfTheFrame_before_reset :
    ∃ u, step neverReset = .next u ∧ neverReset.wasReset = false ∧ (sampleInputs neverReset).rst = false ∧
      u.decFrame = 0xB18D ∧ u.out ≠ neverReset.out :=
  ⟨_, next_of_step _, by decide, by decide, by decide, by decide⟩

theorem witness_QuietEdgeHoldsTheDemodulator :
    (base 4).wasReset = true ∧ (sampleInputs (base 4)).rst = false ∧ (base 4).sync2 = false := by decide

theorem witness_QuietEdgeHoldsTheDemodulator_high :
    ({ base 4 with sync2 := true, sync1 := true }).wasReset = true ∧
    (sampleInputs { base 4 with sync2 := true, sync1 := true }).rst = false ∧
    ({ base 4 with sync2 := true, sync1 := true }).sync1 = true := by decide

theorem witness_TimeCounterUpdate_edge :
    (∃ u, step lastBit = .next u) ∧ lastBit.wasReset = true ∧ (sampleInputs lastBit).rst = false ∧
    lastBit.sync2 = true ∧ lastBit.sync1 = false :=
  ⟨⟨_, next_of_step _⟩, by decide⟩

/-- At the saturation value, at a tick. -/
theorem witness_TimeCounterUpdate_tick :
    (∃ u, step (base 1) = .next u) ∧ (base 1).wasReset = true ∧ (sampleInputs (base 1)).rst = false ∧ (base 1).sync2 = false ∧
    (base 1).presc = (base 1).build.clkPerUs - 1 ∧ (base 1).dt = 2047 :=
  ⟨⟨_, next_of_step _⟩, by decide⟩

theorem witness_TimeCounterUpdate_between :
    (∃ u, step (base 4) = .next u) ∧ (base 4).wasReset = true ∧ (sampleInputs (base 4)).rst = false ∧ (base 4).sync2 = false ∧
    (base 4).presc ≠ (base 4).build.clkPerUs - 1 :=
  ⟨⟨_, next_of_step _⟩, by decide⟩

theorem witness_SynchroniserShifts :
    (∃ u, step lastBit = .next u) ∧ lastBit.wasReset = true ∧ (sampleInputs lastBit).rst = false ∧ fall lastBit = true :=
  ⟨⟨_, next_of_step _⟩, by decide⟩

/-- Two edges after a processed event, with `CLK_PER_US` 3: the third one would measure one microsecond. -/
theorem witness_MeasuredTimeIsWholeMicroseconds :
    ∃ t, ({ base 3 with dt := 0 }).wasReset = true ∧ 0 < ({ base 3 with dt := 0 }).build.clkPerUs ∧
      ({ base 3 with dt := 0 }).dt = 0 ∧
      ({ base 3 with dt := 0 }).presc = 0 ∧ QuietRun 2 { base 3 with dt := 0 } t ∧ dtNow t = 1 :=
  ⟨nextOf (step (nextOf (step { base 3 with dt := 0 }))), by decide, by decide, by decide, by decide,
    .step (.step (.refl _) (next_of_step _) (by decide) (by decide)) (next_of_step _) (by decide)
      (by decide), by decide⟩

theorem witness_FirstEdgeAfterResetIsLong :
    ∃ t, (base 1).wasReset = true ∧ (base 1).dt = 2047 ∧ QuietRun 1 (base 1) t :=
  ⟨nextOf (step (base 1)), by decide, by decide, .step (.refl _) (next_of_step _) (by decide) (by decide)⟩

theorem witness_FrameValidForOneCycle :
    ∃ t u, lastBit.wasReset = true ∧ step lastBit = .next t ∧ t.frameValid = true ∧ step t = .next u :=
  ⟨_, _, by decide, next_of_step _, by decide, next_of_step _⟩

/-- The first reset. -/
theorem witness_FrameValidForOneCycle_reset :
    ∃ t, (sampleInputs { neverReset with rst := true }).rst = true ∧ step { neverReset with rst := true } = .next t ∧
      t.frameValid = false :=
  ⟨_, by decide, next_of_step _, by decide⟩

theorem witness_OfferedFrameIsTheCompletedValue :
    ∃ t, lastBit.wasReset = true ∧ step lastBit = .next t ∧ frameOffered t = some 0x011F :=
  ⟨_, by decide, next_of_step _, by decide⟩

/-- The pin falls at the first of two edges. -/
def pinFalls : State := { base 1 with sync0 := true, sync1 := true, sync2 := true, stimulus := [low, low] }

theorem witness_DetectionLatencyIsTwoCycles :
    ∃ t u, pinFalls.wasReset = true ∧ step pinFalls = .next t ∧ step t = .next u ∧ (sampleInputs pinFalls).rst = false ∧
      (sampleInputs t).rst = false ∧ fall u = true :=
  ⟨_, _, by decide, next_of_step _, next_of_step _, by decide, by decide, by decide⟩

/-- A state that meets the invariant, not reset: Sampling at `POS` 0, an edge pending. -/
theorem lastBit_inv : lastBit.Inv :=
  ⟨by decide, by decide, by decide, by decide, by decide, by decide, by decide⟩

theorem witness_StepKeepsInvariant : ∃ t, lastBit.Inv ∧ step lastBit = .next t ∧ t.frameValid = true :=
  ⟨_, lastBit_inv, next_of_step _, by decide⟩

/-- The invariant before the first reset: `PRESC` has the width of 3 and not its range. -/
theorem witness_StepKeepsInvariant_before_reset :
    ({ base 3 with wasReset := false, presc := 3 }).Inv ∧ ∃ t, step { base 3 with wasReset := false, presc := 3 } = .next t :=
  ⟨⟨by decide, by decide, by decide, by decide, by decide, by decide, by decide⟩, ⟨_, next_of_step _⟩⟩

theorem witness_ParametersNeverChange :
    (∃ t, exec (.highSampling 711) (demod .sampling 8 0) = .next t) ∧ ∃ t, step lastBit = .next t :=
  ⟨⟨_, rfl⟩, ⟨_, next_of_step _⟩⟩

theorem witness_PrescalerFitsItsWidth :
    lastBit.Inv ∧ lastBit.wasReset = true ∧ lastBit.build.clkPerUs = 1 := ⟨lastBit_inv, by decide, by decide⟩

/-- The largest prescaler value of `CLK_PER_US` 16 needs all four bits. -/
theorem witness_PrescalerFitsItsWidth_wide :
    (falling 16 1 15 .sampling 0 0x011E).Inv ∧ (falling 16 1 15 .sampling 0 0x011E).build.prescWidth = 4 :=
  ⟨⟨by decide, by decide, by decide, by decide, by decide, by decide, by decide⟩, by decide⟩

theorem witness_ChecksumDetectsEverySingleBitError :
    15 < 16 ∧ checksumOk (Frame.ofBits 0x011F) = true ∧ checksumOk (Frame.ofBits 0x811F) = false := by decide

theorem witness_ClassesExcludeEachOther :
    isStandardRc (Frame.ofBits 0x011F) = true ∧ isStandardRc (Frame.ofBits 0x411B) = false := by decide

theorem witness_CommandsByClass :
    isStandardRc (Frame.ofBits 0x01F0) = true ∧
    (isPwmRc (Frame.ofBits 0x041A) = true ∧ (Frame.ofBits 0x041A).mode = 4) ∧
    (isPwmRc (Frame.ofBits 0x0780) = true ∧ (Frame.ofBits 0x0780).mode ≠ 4) ∧
    (isStandardRc (Frame.ofBits 0x064D) = false ∧ isPwmRc (Frame.ofBits 0x064D) = false) := by decide

theorem witness_DecoderOutputsFollowTheFrame_before_reset :
    ∃ t, step neverReset = .next t ∧ t.out.stateSignature = 0x89 :=
  ⟨_, next_of_step _, by decide⟩

theorem witness_DecoderOutputsFollowTheFrame :
    ∃ t, step { lastBit with decFrame := 0x01F0 } = .next t ∧ t.out.redCommand = .backward :=
  ⟨_, next_of_step _, by decide⟩

theorem witness_CommandRowsAgreeWithFunctions :
    commandRows (Frame.ofBits 0x011F) ≠ [] ∧ commandRows (Frame.ofBits 0x064D) = [] := by decide

theorem witness_DemodulatorAndDecoderAreIndependent :
    ∃ t1 t2, lastBit.build = ({ lastBit with decFrame := 0x01F0 }).build ∧ step lastBit = .next t1 ∧
      step { lastBit with decFrame := 0x01F0 } = .next t2 ∧
      lastBit.registers = ({ lastBit with decFrame := 0x01F0 }).registers ∧
      (lastBit.wasReset = true ∧ ({ lastBit with decFrame := 0x01F0 }).wasReset = true) ∧
      (sampleInputs lastBit).rst = (sampleInputs { lastBit with decFrame := 0x01F0 }).rst ∧
      (sampleInputs lastBit).irIn = (sampleInputs { lastBit with decFrame := 0x01F0 }).irIn ∧ t1.out ≠ t2.out :=
  ⟨_, _, rfl, next_of_step _, next_of_step _, rfl, by decide, rfl, rfl, by decide⟩

/-- The first reset of one, a later reset of the other. -/
theorem witness_DemodulatorAndDecoderAreIndependent_reset :
    ∃ t1 t2, step { neverReset with rst := true } = .next t1 ∧ step { lastBit with rst := true } = .next t2 ∧
      neverReset.build = lastBit.build ∧
      ({ neverReset with rst := true }).registers = ({ lastBit with rst := true }).registers ∧
      (sampleInputs { neverReset with rst := true }).rst = true ∧ (sampleInputs { lastBit with rst := true }).rst = true ∧
      (sampleInputs { neverReset with rst := true }).irIn = (sampleInputs { lastBit with rst := true }).irIn :=
  ⟨_, _, next_of_step _, next_of_step _, rfl, rfl, rfl, rfl, rfl⟩

theorem witness_DemodulatorAndDecoderAreIndependent_out :
    ∃ t1 t2, lastBit.build = (base 1).build ∧ step lastBit = .next t1 ∧ step (base 1) = .next t2 ∧
      t1.decFrame = t2.decFrame ∧ t1.raw ≠ t2.raw :=
  ⟨_, _, rfl, next_of_step _, next_of_step _, by decide, by decide⟩

theorem witness_DirectWiringDecodesTheFrameOnThePort :
    ∃ t, ({ lastBit with wiring := .direct }).wiring = .direct ∧ step { lastBit with wiring := .direct } = .next t ∧
      frameOffered t = some 0x011F :=
  ⟨_, rfl, next_of_step _, by decide⟩

theorem witness_DecodeOfEncode :
    (Instr.lowSampling 525).wellFormed = true ∧ (Instr.pwmBlueOtherM7 ⟨1, 3, 1, 0xF⟩ 0xF).wellFormed = true ∧
    (Instr.stdRedCode3 ⟨1, 3, 1, 0xF⟩ 3).wellFormed = true := by decide

theorem witness_EncodeOfDecode :
    Instr.stdBlueCode3 ⟨1, 3, 1, 0xF⟩ 3 ∈ decode .sampling (.frame 0xB9FF) ∧
    Instr.ssSampling 947 ∈ decode .sampling (.sym 947) := by decide

theorem witness_ExactlyOneSymbolRowApplies :
    (Instr.lowSampling 317).wellFormed = true ∧ encode (.lowSampling 317) = .sym 317 ∧
    (Instr.lowSampling 317).homeState = .sampling := by decide

/-- A channel whose stored signature is that of 0x011F. -/
def seen18 : ChannelState := { ChannelState.initial with previousSignature := 0x18 }

theorem witness_InvalidOrRepeatedFrameIsDiscarded :
    (env allHandlers).stateForChannel (slice 0x011E 13 12) = some ChannelState.initial ∧
    15 ^^^ slice 0x011E 15 12 ^^^ slice 0x011E 11 8 ^^^ slice 0x011E 7 4 ≠ slice 0x011E 3 0 := by decide

theorem witness_InvalidOrRepeatedFrameIsDiscarded_repeated :
    ({ Env.initial with channels := Vector.replicate 4 seen18 }).stateForChannel (slice 0x311C 13 12) = some seen18 ∧
    stateSignature (Frame.ofBits 0x311C) = seen18.previousSignature := by decide

theorem witness_DispatchKeepsPositionsInRange : Env.initial.inRange := by decide

/-- 0x011F as the first frame of channel 0: accepted. -/
theorem witness_InvalidOrRepeatedFrameIsDiscarded_accepted :
    (env allHandlers).stateForChannel (slice 0x011F 13 12) = some ChannelState.initial ∧
    15 ^^^ slice 0x011F 15 12 ^^^ slice 0x011F 11 8 ^^^ slice 0x011F 7 4 = slice 0x011F 3 0 ∧
    stateSignature (Frame.ofBits 0x011F) ≠ ChannelState.initial.previousSignature := by decide

/-- The channel state after 0x011F. -/
def after011F : ChannelState :=
  { ChannelState.initial with previousSignature := 0x18, red := { SubChannel.initial with actualStep := 7 } }

theorem witness_HandledFrameStopsTheSequence :
    (env allHandlers).stateForChannel (slice 0x011F 13 12) = some ChannelState.initial ∧
    (env allHandlers).handlers[slice 0x011F 13 12]? = some allHandlers ∧
    (((env allHandlers).dispatch (base 1).build marks011F 0x011F).1.stateForChannel (slice 0x011F 13 12)) =
      some after011F ∧
    allHandlers.generic = true ∧ marks011F .generic 0x011F after011F = true := by decide

theorem witness_HandledFrameStopsTheSequence_unmarked :
    (((env allHandlers).dispatch (base 1).build unmarked 0x011F).1.stateForChannel (slice 0x011F 13 12)) =
      some after011F ∧ ∀ slot, unmarked slot 0x011F after011F = false :=
  ⟨by decide, fun _ => rfl⟩

theorem witness_HandledFrameStopsTheSequence_absent :
    (((env { allHandlers with generic := false }).dispatch (base 1).build marks011F 0x011F).2.map Call.slot) =
      [.redEffected, .blueEffected, .redChanged] := by decide

theorem witness_SetStepsValidatesItsArguments :
    ((env allHandlers).setSteps 3 127 1).isSome = true ∧ (env allHandlers).stateForChannel 3 = some ChannelState.initial ∧
    (env allHandlers).setSteps 4 1 1 = none := by decide

end Sys2Proof.Tests
end

section
/-!
PROOFS of the statements about the registers (10_state.md): reset, the synchroniser and the strobe. First what settling the decoder
and one event leave unchanged, then what a step does to `SYNC0` to `SYNC2`, to `FRAME_VALID` and to the reset flag.
-/

namespace Sys2Proof.Machine

/-! Settling the decoder writes `dec_frame` and the decoder's wires only. -/

@[simp] theorem settled_state (t : State) : (settled t).state = t.state := by simp [settled]
@[simp] theorem settled_pos (t : State) : (settled t).pos = t.pos := by simp [settled]
@[simp] theorem settled_raw (t : State) : (settled t).raw = t.raw := by simp [settled]
@[simp] theorem settled_dt (t : State) : (settled t).dt = t.dt := by simp [settled]
@[simp] theorem settled_presc (t : State) : (settled t).presc = t.presc := by simp [settled]
@[simp] theorem settled_sync0 (t : State) : (settled t).sync0 = t.sync0 := by simp [settled]
@[simp] theorem settled_sync1 (t : State) : (settled t).sync1 = t.sync1 := by simp [settled]
@[simp] theorem settled_sync2 (t : State) : (settled t).sync2 = t.sync2 := by simp [settled]
@[simp] theorem settled_frameValid (t : State) : (settled t).frameValid = t.frameValid := by simp [settled]
@[simp] theorem settled_rst (t : State) : (settled t).rst = t.rst := by simp [settled]
@[simp] theorem settled_irIn (t : State) : (settled t).irIn = t.irIn := by simp [settled]
@[simp] theorem settled_build (t : State) : (settled t).build = t.build := by simp [settled]
@[simp] theorem settled_wiring (t : State) : (settled t).wiring = t.wiring := by simp [settled]
@[simp] theorem settled_wasReset (t : State) : (settled t).wasReset = t.wasReset := by simp [settled]
@[simp] theorem settled_draws (t : State) : (settled t).draws = t.draws := by simp [settled]
@[simp] theorem settled_stimulus (t : State) : (settled t).stimulus = t.stimulus := by simp [settled]

/-! One event. -/

/-- The position step raises the strobe exactly at `POS` 0; elsewhere it leaves it (40_demodulator.md R83, R85). -/
@[simp] theorem positionStep_frameValid (v : Raw) (s : State) :
    (positionStep v s).frameValid = (s.frameValid || s.pos == 0) := by
  by_cases h : s.pos = 0
  · simp [positionStep, h]
  · rw [positionStep, if_pos h, beq_false_of_ne h, Bool.or_false]

/-- The position step writes no register but `STATE`, `POS`, `RAW` and `FRAME_VALID` (40_demodulator.md R83). -/
theorem positionStep_frame (v : Raw) (s : State) :
    positionStep v s =
      { s with
        state := (positionStep v s).state, pos := (positionStep v s).pos, raw := (positionStep v s).raw
        frameValid := (positionStep v s).frameValid } := by
  unfold positionStep
  split <;> rfl

/-- An event writes no register but `STATE`, `POS`, `RAW` and `FRAME_VALID` (40_demodulator.md R84). -/
theorem eventStep_frame {dt : Nat} {s t : State} (h : eventStep dt s = .next t) :
    t = { s with state := t.state, pos := t.pos, raw := t.raw, frameValid := t.frameValid } := by
  rw [eventStep_table] at h
  obtain rfl := Host.Outcome.next.inj h
  cases classify dt with
  | short | long => rfl
  | ss => cases s.state <;> rfl
  | low | high =>
    cases s.state with
    | idle => rfl
    | sampling => exact positionStep_frame _ _

/-- An event leaves the strobe 1 exactly if it is a bit symbol in Sampling at `POS` 0 (40_demodulator.md R83, R85). -/
theorem eventStep_frameValid {dt : Nat} {s t : State} (h : eventStep dt s = .next t) :
    t.frameValid = true ↔ s.state = .sampling ∧ s.pos = 0 ∧ bitSymbol dt := by
  rw [eventStep_table] at h
  obtain rfl := Host.Outcome.next.inj h
  cases hc : classify dt with
  | short | long => simp [bitSymbol, hc]
  | ss | low | high => cases s.state <;> simp [bitSymbol, hc]

/-! One step. -/

/-- After the first reset a step without `rst` is a clock edge, settled: the one case of `step_cases` that is left. -/
theorem step_edge_cases {s u : State} (hw : s.wasReset = true) (hr : (sampleInputs s).rst = false)
    (hu : step s = .next u) :
    ∃ t, u = settled (latchTiming (sampleInputs s) t) ∧
      ((fall s = true ∧ eventStep (dtNow s).toNat (sampleInputs s) = .next t) ∨
        (fall s = false ∧ t = clearStrobe (sampleInputs s))) := by
  obtain ⟨hr', -⟩ | ⟨-, -, h⟩ | ⟨-, hw', -⟩ := step_cases hu
  · simp [hr] at hr'
  · exact h
  · simp [hw] at hw'

/-- A reset is behind a step exactly if one was before it or `rst` was captured 1. -/
theorem step_wasReset {s u : State} (hu : step s = .next u) : u.wasReset = (s.wasReset || (sampleInputs s).rst) := by
  obtain ⟨hr, rfl⟩ | ⟨hr, hw, t, rfl, ⟨-, ht⟩ | ⟨-, rfl⟩⟩ | ⟨hr, hw, rfl⟩ := step_cases hu
  · simp [hr]
  · rw [eventStep_frame ht]
    simp [hr]
  · simp [hr]
  · simp [hr]

/-- The synchroniser shifts at an edge without `rst` (10_state.md R16). -/
theorem step_shifts_synchroniser {s u : State} (hw : s.wasReset = true) (hr : (sampleInputs s).rst = false)
    (hu : step s = .next u) : u.sync0 = (sampleInputs s).irIn ∧ u.sync1 = s.sync0 ∧ u.sync2 = s.sync1 := by
  obtain ⟨t, rfl, -⟩ := step_edge_cases hw hr hu
  simp

theorem fall_iff (s : State) : fall s = true ↔ s.sync2 = true ∧ s.sync1 = false := by
  simp [fall]

/-- A detected edge lasts one cycle: `SYNC2` takes the `SYNC1` that was 0 (10_state.md R16). -/
theorem fall_false_of_step_fall {s u : State} (hw : s.wasReset = true) (hr : (sampleInputs s).rst = false)
    (hu : step s = .next u) (hf : fall s = true) : fall u = false := by
  obtain ⟨-, -, h2⟩ := step_shifts_synchroniser hw hr hu
  obtain ⟨-, h1⟩ := (fall_iff s).mp hf
  simp [fall, h2, h1]

theorem step_reset_frameValid {s u : State} (hr : (sampleInputs s).rst = true) (hu : step s = .next u) :
    u.frameValid = false := by
  rw [step_reset hr] at hu
  obtain rfl := Host.Outcome.next.inj hu
  simp

/-- After the first reset a step without `rst` leaves the strobe 1 exactly if it processed the last bit of a frame
(40_demodulator.md R76, R83, R85). -/
theorem step_edge_frameValid {s u : State} (hw : s.wasReset = true) (hr : (sampleInputs s).rst = false)
    (hu : step s = .next u) :
    u.frameValid = true ↔ fall s = true ∧ s.state = .sampling ∧ s.pos = 0 ∧ bitSymbol (dtNow s).toNat := by
  obtain ⟨t, rfl, ⟨hf, ht⟩ | ⟨hf, rfl⟩⟩ := step_edge_cases hw hr hu
  · simpa [hf] using eventStep_frameValid ht
  · simp [hf]

/-- A step at a reset or with one behind it leaves the strobe 1 exactly if it completed a frame (10_state.md R17). -/
theorem step_frameValid {s u : State} (h : s.wasReset = true ∨ (sampleInputs s).rst = true) (hu : step s = .next u) :
    u.frameValid = true ↔ (sampleInputs s).rst = false ∧ fall s = true ∧ s.state = .sampling ∧ s.pos = 0 ∧
      bitSymbol (dtNow s).toNat := by
  cases hr : (sampleInputs s).rst with
  | true => simp [step_reset_frameValid hr hu]
  | false =>
    have hw : s.wasReset = true := by simpa [hr] using h
    simpa using step_edge_frameValid hw hr hu

/-- Settles O14: a step with `rst` is `resetRegisters`, settled, whatever the state before. -/
theorem resetEdgeTakesResetValues : Obligations.ResetEdgeTakesResetValues := by
  intro s hr
  exact ⟨_, step_reset hr, by simp [Config.dtSat]⟩

/-- Settles O21, by `step_shifts_synchroniser`; `fall` lasts one cycle as `SYNC2` takes the `SYNC1` that was 0. -/
theorem synchroniserShifts : Obligations.SynchroniserShifts := by
  intro s u hw hr hu
  obtain ⟨h0, h1, h2⟩ := step_shifts_synchroniser hw hr hu
  exact ⟨h0, h1, h2, fall_iff s, fall_false_of_step_fall hw hr hu⟩

/-- Settles O24: the strobe needs a detected edge, and the cycle after one has none, so the next step clears it. -/
theorem frameValidForOneCycle : Obligations.FrameValidForOneCycle := by
  intro s t h ht
  refine ⟨rfl, step_frameValid h ht, fun hv u hu => ?_⟩
  obtain ⟨hr, hf, -⟩ := (step_frameValid h ht).mp hv
  have hw : s.wasReset = true := by simpa [hr] using h
  have hwt : t.wasReset = true := by simp [step_wasReset ht, hw]
  have hft : fall t = false := fall_false_of_step_fall hw hr ht hf
  simpa [hft] using step_frameValid (.inl hwt) hu

end Sys2Proof.Machine
end

section
/-!
PROOFS of the statement about the classifier (30_encoding.md R46).
-/

namespace Sys2Proof.Machine

/-- Settles O1: each symbol puts `dt` in its own window (`window_of_symbol`), and as the windows are disjoint, `dt` lies in no
window but that of its symbol. -/
theorem classifyPartitionsTime : Obligations.ClassifyPartitionsTime := by
  intro dt
  obtain ⟨hshort, hlow, hhigh, hss, hlong⟩ := Laws.EncodingPattern.window_of_symbol dt
  cases hc : classify dt with
  | short => have := hshort hc; simp only [reduceCtorEq, true_iff, false_iff]; omega
  | low => have := hlow hc; simp only [reduceCtorEq, true_iff, false_iff]; omega
  | high => have := hhigh hc; simp only [reduceCtorEq, true_iff, false_iff]; omega
  | ss => have := hss hc; simp only [reduceCtorEq, true_iff, false_iff]; omega
  | long => have := hlong hc; simp only [reduceCtorEq, true_iff, false_iff]; omega

end Sys2Proof.Machine
end

section
/-!
PROOFS of the statements about the symbol rows and the time counter (40_demodulator.md). First what each symbol row answers where its
guard holds, then the position step by `POS`, then the time counter.
-/

namespace Sys2Proof.Machine

/-! The symbol rows where their guard holds. -/

theorem exec_short_of_classify {dt : Nat} (hc : classify dt = .short) (s : State) :
    exec (.short dt) s = .next (forceIdle s) := if_pos hc

theorem exec_long_of_classify {dt : Nat} (hc : classify dt = .long) (s : State) :
    exec (.long dt) s = .next (forceIdle s) := if_pos hc

theorem exec_ssIdle_of_classify {dt : Nat} {s : State} (hs : s.state = .idle) (hc : classify dt = .ss) :
    exec (.ssIdle dt) s = .next { alignFrame s with state := .sampling } := if_pos ⟨hs, hc⟩

theorem exec_ssSampling_of_classify {dt : Nat} {s : State} (hs : s.state = .sampling) (hc : classify dt = .ss) :
    exec (.ssSampling dt) s = .next (alignFrame s) := if_pos ⟨hs, hc⟩

theorem exec_highSampling_of_classify {dt : Nat} {s : State} (hs : s.state = .sampling) (hc : classify dt = .high) :
    exec (.highSampling dt) s = .next (positionStep (setBitAt s.raw s.pos) s) := if_pos ⟨hs, hc⟩

theorem exec_lowSampling_of_classify {dt : Nat} {s : State} (hs : s.state = .sampling) (hc : classify dt = .low) :
    exec (.lowSampling dt) s = .next (positionStep s.raw s) := if_pos ⟨hs, hc⟩

/-! The bit of a `HIGH` and the position step. -/

/-- Bit `POS` is set, the other bits are as before (40_demodulator.md R81). -/
theorem getLsbD_setBitAt (raw : Raw) (pos : Pos) (i : Nat) :
    (setBitAt raw pos).getLsbD i = (decide (i = pos.toNat) || raw.getLsbD i) := by
  have hone : (1#16 <<< pos.toNat).getLsbD i = decide (i = pos.toNat) := by
    have hpos : pos.toNat < 16 := pos.isLt
    rw [← BitVec.twoPow_eq, BitVec.getLsbD_twoPow, decide_eq_true hpos, Bool.true_and, decide_eq_decide, eq_comm]
  rw [setBitAt, BitVec.getLsbD_or, hone, Bool.or_comm]

/-- Before the sixteenth bit `POS` goes down by one (40_demodulator.md R83). -/
theorem positionStep_of_pos_ne_zero (v : Raw) {s : State} (hp : s.pos.toNat ≠ 0) :
    positionStep v s = { s with raw := v, pos := BitVec.ofNat 4 (s.pos.toNat - 1) } := by
  have hne : s.pos ≠ 0 := fun h => hp (by rw [h]; rfl)
  have hpred : s.pos - 1 = BitVec.ofNat 4 (s.pos.toNat - 1) := by bv_omega
  rw [positionStep, if_pos hne, hpred]

/-- At the sixteenth bit the frame is handed out (40_demodulator.md R83). -/
theorem positionStep_of_pos_eq_zero (v : Raw) {s : State} (hp : s.pos.toNat = 0) :
    positionStep v s = { s with raw := v, frameValid := true, state := .idle, pos := 15 } := by
  have hzero : s.pos = 0 := BitVec.eq_of_toNat_eq hp
  exact if_neg (not_not_intro hzero)

/-! The time counter. -/

/-- The increment saturates (00_scope.md section 5). -/
theorem satInc_toNat (v : Micros) : (satInc v).toNat = min (v.toNat + 1) 2047 := by
  have hlt := v.isLt
  unfold satInc Config.dtSat
  split <;> bv_omega

/-- An edge without `rst` writes the time counter from the state before it (40_demodulator.md R75). -/
theorem step_latches_time {s u : State} (hw : s.wasReset = true) (hr : (sampleInputs s).rst = false)
    (hu : step s = .next u) : u.dt = nextDt s ∧ u.presc = nextPresc s := by
  obtain ⟨t, rfl, -⟩ := step_edge_cases hw hr hu
  simp

theorem tick_iff (s : State) : tick s = true ↔ s.presc = s.build.clkPerUs - 1 := by
  simp [tick]

theorem fall_eq_false_iff (s : State) : fall s = false ↔ s.sync2 = false ∨ s.sync1 = true := by
  rw [fall, Bool.and_eq_false_iff, Bool.not_eq_false']

theorem nextTime_of_fall {s : State} (hf : fall s = true) : nextDt s = 0 ∧ nextPresc s = 0 := by
  simp [nextDt, nextPresc, hf]

theorem nextTime_of_tick {s : State} (hf : fall s = false) (ht : tick s = true) :
    nextDt s = satInc s.dt ∧ nextPresc s = 0 := by
  simp [nextDt, nextPresc, hf, ht]

theorem nextTime_of_not_tick {s : State} (hf : fall s = false) (ht : ¬ tick s = true) :
    nextDt s = s.dt ∧ nextPresc s = s.presc + 1 := by
  simp [nextDt, nextPresc, hf, ht]

/-! The statements. -/

/-- Settles O6: the value is `setBitAt` of `RAW`, and the two cases are those of the position step. -/
theorem highSymbolTakesOneBit : Obligations.HighSymbolTakesOneBit := by
  intro dt s hs hlo hhi
  obtain ⟨-, -, hhigh, -, -⟩ := classifyPartitionsTime dt
  have hexec := exec_highSampling_of_classify hs (hhigh.mpr ⟨hlo, by omega⟩)
  refine ⟨setBitAt s.raw s.pos, fun i _ => getLsbD_setBitAt s.raw s.pos i, fun hp => ?_, fun hp => ?_⟩
  · rw [hexec, positionStep_of_pos_ne_zero _ hp]
  · rw [hexec, positionStep_of_pos_eq_zero _ hp]

/-- Settles O20: the step latches `nextDt` and `nextPresc`, whose three cases are a detected edge, a tick and neither. -/
theorem timeCounterUpdate : Obligations.TimeCounterUpdate := by
  intro s u hw hr hu
  obtain ⟨hdt, hpresc⟩ := step_latches_time hw hr hu
  rw [hdt, hpresc, ← fall_iff, ← fall_eq_false_iff, ← satInc_toNat, ne_eq, ← tick_iff]
  refine ⟨nextTime_of_fall, fun hf ht => ?_, nextTime_of_not_tick⟩
  obtain ⟨hd, hp⟩ := nextTime_of_tick hf ht
  exact ⟨congrArg BitVec.toNat hd, hp⟩

/-- Settles O2: both times classify as the row's own symbol, whose whole effect is `forceIdle`. -/
theorem timingErrorForcesIdle : Obligations.TimingErrorForcesIdle := by
  intro dt s
  obtain ⟨hshort, -, -, -, hlong⟩ := classifyPartitionsTime dt
  exact ⟨fun h => exec_short_of_classify (hshort.mpr h) s, fun h => exec_long_of_classify (hlong.mpr h) s⟩

/-- Settles O4: the time classifies as a start pulse, so the row aligns the frame and goes to Sampling. -/
theorem startPulseOpensFrame : Obligations.StartPulseOpensFrame := by
  intro dt s hs hlo hhi
  obtain ⟨-, -, -, hss, -⟩ := classifyPartitionsTime dt
  exact exec_ssIdle_of_classify hs (hss.mpr ⟨hlo, by omega⟩)

/-- Settles O5: the time classifies as a start pulse, so the row aligns the frame and nothing else. -/
theorem earlyStartRestartsFrame : Obligations.EarlyStartRestartsFrame := by
  intro dt s hs hlo hhi
  obtain ⟨-, -, -, hss, -⟩ := classifyPartitionsTime dt
  exact exec_ssSampling_of_classify hs (hss.mpr ⟨hlo, by omega⟩)

/-- Settles O7: the position step with the value `RAW` has, in its two cases. -/
theorem lowSymbolTakesZeroBit : Obligations.LowSymbolTakesZeroBit := by
  intro dt s hs hlo hhi
  obtain ⟨-, hlow, -, -, -⟩ := classifyPartitionsTime dt
  have hexec := exec_lowSampling_of_classify hs (hlow.mpr ⟨by omega, by omega⟩)
  refine ⟨fun hp => ?_, fun hp => ?_⟩
  · rw [hexec, positionStep_of_pos_ne_zero _ hp]
  · rw [hexec, positionStep_of_pos_eq_zero _ hp]

end Sys2Proof.Machine
end

section
/-!
PROOFS of the statements about the frame decoder (41_frame_decoder.md). First a frame's fields as slices of its word, then what
each decoder function is over those slices, then the statements.
-/

namespace Sys2Proof.Machine

/-! The fields of a word (30_encoding.md R47). -/

/-- `w[hi:lo]` is the number the extracted bits stand for (00_scope.md section 5). -/
theorem toNat_extractLsb'_eq_slice (w : Raw) (hi lo : Nat) : (w.extractLsb' lo (hi - lo + 1)).toNat = slice w hi lo := by
  simp only [BitVec.extractLsb'_toNat, Nat.shiftRight_eq_div_pow, slice]

theorem extractLsb'_eq_ofNat_slice (w : Raw) (hi lo : Nat) :
    w.extractLsb' lo (hi - lo + 1) = BitVec.ofNat (hi - lo + 1) (slice w hi lo) := by
  rw [← toNat_extractLsb'_eq_slice, BitVec.ofNat_toNat, BitVec.setWidth_eq]

theorem extractLsb'_eq_iff_slice (w : Raw) (hi lo : Nat) (v : BitVec (hi - lo + 1)) :
    w.extractLsb' lo (hi - lo + 1) = v ↔ slice w hi lo = v.toNat := by
  rw [← toNat_extractLsb'_eq_slice, BitVec.toNat_inj]

/-- Every field of the protocol view is a slice of the word (30_encoding.md R47). -/
theorem ofBits_eq_slices (w : Raw) :
    Frame.ofBits w =
      { toggle := BitVec.ofNat 1 (slice w 15 15), escape := BitVec.ofNat 1 (slice w 14 14)
        channel := BitVec.ofNat 2 (slice w 13 12), address := BitVec.ofNat 1 (slice w 11 11)
        mode := BitVec.ofNat 3 (slice w 10 8), data := BitVec.ofNat 4 (slice w 7 4)
        checksum := BitVec.ofNat 4 (slice w 3 0) } := by
  rw [Frame.ofBits, Frame.mk.injEq]
  exact ⟨extractLsb'_eq_ofNat_slice w 15 15, extractLsb'_eq_ofNat_slice w 14 14, extractLsb'_eq_ofNat_slice w 13 12,
    extractLsb'_eq_ofNat_slice w 11 11, extractLsb'_eq_ofNat_slice w 10 8, extractLsb'_eq_ofNat_slice w 7 4,
    extractLsb'_eq_ofNat_slice w 3 0⟩

theorem escape_eq_iff_slice (w : Raw) (e : BitVec 1) : (Frame.ofBits w).escape = e ↔ slice w 14 14 = e.toNat :=
  extractLsb'_eq_iff_slice w 14 14 e

theorem mode_eq_iff_slice (w : Raw) (m : BitVec 3) : (Frame.ofBits w).mode = m ↔ slice w 10 8 = m.toNat :=
  extractLsb'_eq_iff_slice w 10 8 m

/-- The mode's bits are bits 10 to 8 of the word (30_encoding.md R47). -/
theorem extractLsb'_mode_ofBits (w : Raw) {i : Nat} (hi : i < 3) :
    (Frame.ofBits w).mode.extractLsb' i 1 = w.extractLsb' (8 + i) 1 := by
  ext j hj
  have hij : i + j < 3 := by omega
  simp only [Frame.ofBits, BitVec.getElem_extractLsb', BitVec.getLsbD_extractLsb', hij, decide_true, Bool.true_and,
    Nat.add_assoc]

/-! The checksum. -/

/-- The first nibble joins three adjacent fields (30_encoding.md R48). -/
theorem nibble1_ofBits (w : Raw) : nibble1 (Frame.ofBits w) = w.extractLsb' 12 4 := by
  have htop : w.extractLsb' 15 1 ++ w.extractLsb' 14 1 = w.extractLsb' 14 2 :=
    BitVec.extractLsb'_append_extractLsb'_eq_extractLsb' rfl
  have hall : w.extractLsb' 14 2 ++ w.extractLsb' 12 2 = w.extractLsb' 12 4 :=
    BitVec.extractLsb'_append_extractLsb'_eq_extractLsb' rfl
  rw [← hall, ← htop]
  rfl

/-- The second nibble joins `address` and `mode` (30_encoding.md R48). -/
theorem nibble2_ofBits (w : Raw) : nibble2 (Frame.ofBits w) = w.extractLsb' 8 4 :=
  BitVec.extractLsb'_append_extractLsb'_eq_extractLsb' rfl

/-- The checksum test on the nibbles is the one on the slices of the word (41_frame_decoder.md R103). -/
theorem checksumOk_ofBits (w : Raw) : checksumOk (Frame.ofBits w) = decide (checksumRight w) := by
  have h1 : (nibble1 (Frame.ofBits w)).toNat = slice w 15 12 := by
    rw [nibble1_ofBits, toNat_extractLsb'_eq_slice w 15 12]
  have h2 : (nibble2 (Frame.ofBits w)).toNat = slice w 11 8 := by
    rw [nibble2_ofBits, toNat_extractLsb'_eq_slice w 11 8]
  have h3 : (nibble3 (Frame.ofBits w)).toNat = slice w 7 4 := toNat_extractLsb'_eq_slice w 7 4
  have h4 : (nibble4 (Frame.ofBits w)).toNat = slice w 3 0 := toNat_extractLsb'_eq_slice w 3 0
  rw [checksumOk, beq_eq_decide, decide_eq_decide, ← BitVec.toNat_inj]
  simp only [BitVec.toNat_xor, h1, h2, h3, h4]
  rfl

/-! The classes. -/

theorem isExtendedMode_iff_slices (w : Raw) :
    isExtendedMode (Frame.ofBits w) = true ↔ slice w 14 14 = 0 ∧ slice w 10 8 = 0 := by
  simp [isExtendedMode, escape_eq_iff_slice, mode_eq_iff_slice]

theorem isStandardRc_iff_slices (w : Raw) :
    isStandardRc (Frame.ofBits w) = true ↔ slice w 14 14 = 0 ∧ slice w 10 8 = 1 := by
  simp [isStandardRc, escape_eq_iff_slice, mode_eq_iff_slice]

theorem isComboPwmMode_iff_slice (w : Raw) : isComboPwmMode (Frame.ofBits w) = true ↔ slice w 14 14 = 1 := by
  simp [isComboPwmMode, escape_eq_iff_slice]

/-- Masking a mode with 4 reads its bit 2 (41_frame_decoder.md R108). -/
theorem mode_and_four_ne_zero_iff (m : BitVec 3) : m &&& 0x4 ≠ 0 ↔ m.extractLsb' 2 1 = 1 := by
  revert m; decide

theorem isPwmRc_iff_slices (w : Raw) :
    isPwmRc (Frame.ofBits w) = true ↔ slice w 14 14 = 0 ∧ slice w 10 10 = 1 ∧ slice w 10 8 ≠ 6 := by
  have hbit : (Frame.ofBits w).mode &&& 0x4 ≠ 0 ↔ slice w 10 10 = 1 := by
    rw [mode_and_four_ne_zero_iff, extractLsb'_mode_ofBits w (by decide)]
    exact extractLsb'_eq_iff_slice w 10 10 1
  simp only [isPwmRc, Bool.and_eq_true, beq_iff_eq, bne_iff_ne, ne_eq] at hbit ⊢
  rw [hbit, escape_eq_iff_slice, mode_eq_iff_slice, and_assoc]
  rfl

/-! The selected port and the effected flags. -/

/-- Masking a mode with 1 reads its bit 0 (41_frame_decoder.md R110). -/
theorem mode_and_one_setWidth (m : BitVec 3) : (m &&& 1).setWidth 1 = m.extractLsb' 0 1 := by
  revert m; decide

/-- The selected port is bit 8 of the word (41_frame_decoder.md R110). -/
theorem singleOutputPort_ofBits (w : Raw) : singleOutputPort (Frame.ofBits w) = w.extractLsb' 8 1 := by
  rw [singleOutputPort, mode_and_one_setWidth, extractLsb'_mode_ofBits w (by decide)]

theorem singleOutputPort_eq_iff_slice (w : Raw) (p : BitVec 1) :
    singleOutputPort (Frame.ofBits w) = p ↔ slice w 8 8 = p.toNat := by
  rw [singleOutputPort_ofBits]
  exact extractLsb'_eq_iff_slice w 8 8 p

theorem redEffected_ofBits (w : Raw) :
    redEffected (Frame.ofBits w) = decide ((slice w 14 14 = 0 ∧ slice w 10 8 = 1) ∨ slice w 8 8 = 0) := by
  rw [redEffected, Bool.eq_iff_iff, decide_eq_true_iff, Bool.or_eq_true, isStandardRc_iff_slices, beq_iff_eq,
    singleOutputPort_eq_iff_slice]
  rfl

theorem blueEffected_ofBits (w : Raw) :
    blueEffected (Frame.ofBits w) = decide ((slice w 14 14 = 0 ∧ slice w 10 8 = 1) ∨ slice w 8 8 = 1) := by
  rw [blueEffected, Bool.eq_iff_iff, decide_eq_true_iff, Bool.or_eq_true, isStandardRc_iff_slices, beq_iff_eq,
    singleOutputPort_eq_iff_slice]
  rfl

/-! The signature. -/

/-- No term of the signature loses a bit in the eight it has (41_frame_decoder.md R115). -/
theorem stateSignature_toNat (f : Frame) :
    (stateSignature f).toNat = (f.data.toNat * 16 ||| f.mode.toNat * 8 ||| f.toggle.toNat) := by
  have hd := f.data.isLt
  have hm := f.mode.isLt
  have ht := f.toggle.isLt
  simp only [stateSignature, BitVec.toNat_or, BitVec.toNat_shiftLeft, BitVec.toNat_setWidth, Nat.shiftLeft_eq]
  congr 2 <;> omega

/-- The signature of a word over its slices (41_frame_decoder.md R115). -/
theorem stateSignature_ofBits_toNat (w : Raw) :
    (stateSignature (Frame.ofBits w)).toNat = (slice w 7 4 * 16 ||| slice w 10 8 * 8 ||| slice w 15 15) := by
  have ht : (Frame.ofBits w).toggle.toNat = slice w 15 15 := toNat_extractLsb'_eq_slice w 15 15
  have hm : (Frame.ofBits w).mode.toNat = slice w 10 8 := toNat_extractLsb'_eq_slice w 10 8
  have hd : (Frame.ofBits w).data.toNat = slice w 7 4 := toNat_extractLsb'_eq_slice w 7 4
  rw [stateSignature_toNat, hd, hm, ht]

/-- A bit of the signature, by the three terms that are or-ed (41_frame_decoder.md R115). -/
theorem getLsbD_stateSignature_ofBits (w : Raw) {i : Nat} (hi : i < 8) :
    (stateSignature (Frame.ofBits w)).getLsbD i =
      ((decide (4 ≤ i) && w.getLsbD i) || (decide (3 ≤ i ∧ i < 6) && w.getLsbD (i + 5)) ||
        (decide (i = 0) && w.getLsbD 15)) := by
  simp only [stateSignature, Frame.ofBits]
  interval_cases i <;> simp

/-! The statements. -/

/-- Settles O32: each field is its slice. -/
theorem fieldOutputs : Obligations.FieldOutputs := by
  intro w s
  rw [ofBits_eq_slices]
  rfl

/-- Settles O33: the four nibbles are slices, and the exclusive-or of the numbers is that of the nibbles. -/
theorem checksumOutput : Obligations.ChecksumOutput := by
  intro w s
  rw [exec, execChecksumOk, checksumOk_ofBits]

/-- Settles O35: the two outputs are the extracted bits 13:12 and 8. -/
theorem channelAndPortOutputs : Obligations.ChannelAndPortOutputs := by
  intro w s
  constructor
  · rw [ofBits_eq_slices]
    rfl
  · rw [exec, execSingleOutputPort, singleOutputPort_ofBits, extractLsb'_eq_ofNat_slice w 8 8]

/-- Settles O37: the class row drives the four predicates (`exec_classRow`), and each is its condition on the slices. -/
theorem classOfEveryFrame : Obligations.ClassOfEveryFrame := by
  intro w s
  exact ⟨_, exec_classRow _ s, isExtendedMode_iff_slices w, isStandardRc_iff_slices w, isComboPwmMode_iff_slice w,
    isPwmRc_iff_slices w⟩

/-- Settles O46: the number and each bit of the signature over the word; the two frames are evaluated. -/
theorem stateSignatureOutput : Obligations.StateSignatureOutput := by
  refine ⟨fun w s => ⟨stateSignature (Frame.ofBits w), rfl, stateSignature_ofBits_toNat w, ?_⟩, by decide, by decide⟩
  refine ⟨?_, ?_, ?_, ?_, ?_, ?_, ?_, ?_⟩ <;> rw [getLsbD_stateSignature_ofBits w (by decide)] <;> simp

/-- Settles O47: each flag is its condition on the slices, as a Boolean. -/
theorem effectedOutputs : Obligations.EffectedOutputs := by
  intro w s
  constructor
  · rw [exec, execRedEffected, redEffected_ofBits]
  · rw [exec, execBlueEffected, blueEffected_ofBits]

/-- Settles O48: the code of each command is read off its definition. -/
theorem commandPortCodes : Obligations.CommandPortCodes := by
  refine ⟨rfl, rfl, rfl, rfl, rfl, rfl, rfl, fun c => ?_⟩
  cases c <;> decide

end Sys2Proof.Machine
end

section
/-!
PROOFS of the statements about the frame decoder's commands and the decoder as a whole (41_frame_decoder.md sections 1 to 7). First the
two commands over the slices of the word, then all eighteen outputs, then the statements that follow from a step settling them.
-/

namespace Sys2Proof.Machine

/-! The classes that have commands. -/

theorem isStandardRc_iff (f : Frame) : isStandardRc f = true ↔ f.escape = 0 ∧ f.mode = 1 := by
  simp [isStandardRc]

/-- Of the eight modes those with bit 2 set, 6 excepted, are 4, 5 and 7 (41_frame_decoder.md R108). -/
theorem mode_pwm_iff (m : BitVec 3) : (m &&& 0x4 ≠ 0 ∧ m ≠ Config.pwmExcludedMode) ↔ m = 4 ∨ m = 5 ∨ m = 7 := by
  revert m; decide

/-- pwm_rc by its modes (41_frame_decoder.md R108). -/
theorem isPwmRc_iff (f : Frame) : isPwmRc f = true ↔ f.escape = 0 ∧ (f.mode = 4 ∨ f.mode = 5 ∨ f.mode = 7) := by
  rw [← mode_pwm_iff, ← and_assoc]
  simp only [isPwmRc, Bool.and_eq_true, beq_iff_eq, bne_iff_ne]

theorem isPwmRc_iff_slice_modes (w : Raw) :
    isPwmRc (Frame.ofBits w) = true ↔
      slice w 14 14 = 0 ∧ (slice w 10 8 = 4 ∨ slice w 10 8 = 5 ∨ slice w 10 8 = 7) := by
  simp [isPwmRc_iff, escape_eq_iff_slice, mode_eq_iff_slice]

/-! The commands over the slices. -/

theorem data_eq_iff_slice (w : Raw) (d : BitVec 4) : (Frame.ofBits w).data = d ↔ slice w 7 4 = d.toNat :=
  extractLsb'_eq_iff_slice w 7 4 d

/-- A sub-field of `data` is a field of the word (30_encoding.md R47). -/
theorem extractLsb'_data_ofBits (w : Raw) {i n : Nat} (hi : i + n ≤ 4) :
    (Frame.ofBits w).data.extractLsb' i n = w.extractLsb' (4 + i) n := by
  ext j hj
  have hij : i + j < 4 := by omega
  simp only [Frame.ofBits, BitVec.getElem_extractLsb', BitVec.getLsbD_extractLsb', hij, decide_true, Bool.true_and,
    Nat.add_assoc]

/-- The red sub-field is bits 5 and 4 of the word (30_encoding.md R50). -/
theorem redSub_eq_iff_slice (w : Raw) (c : BitVec 2) : redSub (Frame.ofBits w).data = c ↔ slice w 5 4 = c.toNat := by
  rw [redSub, extractLsb'_data_ofBits w (by decide)]
  exact extractLsb'_eq_iff_slice w 5 4 c

/-- The blue sub-field is bits 7 and 6 of the word (30_encoding.md R50). -/
theorem blueSub_eq_iff_slice (w : Raw) (c : BitVec 2) : blueSub (Frame.ofBits w).data = c ↔ slice w 7 6 = c.toNat := by
  rw [blueSub, extractLsb'_data_ofBits w (by decide)]
  exact extractLsb'_eq_iff_slice w 7 6 c

/-- `red_command` as the second transcription has it (41_frame_decoder.md R112). -/
theorem redCommand_ofBits (b : Build) (w : Raw) : redCommand b (Frame.ofBits w) = (outputsOfBits b w).redCommand := by
  simp only [redCommand, stdCmd, pwmCmd, outputsOfBits, isStandardRc_iff_slices, Bool.and_eq_true, isPwmRc_iff_slice_modes,
    beq_iff_eq, singleOutputPort_eq_iff_slice, redSub_eq_iff_slice, data_eq_iff_slice]
  rfl

/-- `blue_command` as the second transcription has it (41_frame_decoder.md R113). -/
theorem blueCommand_ofBits (b : Build) (w : Raw) : blueCommand b (Frame.ofBits w) = (outputsOfBits b w).blueCommand := by
  simp only [blueCommand, stdCmd, pwmCmd, outputsOfBits, isStandardRc_iff_slices, Bool.and_eq_true, isPwmRc_iff_slice_modes,
    beq_iff_eq, singleOutputPort_eq_iff_slice, blueSub_eq_iff_slice, data_eq_iff_slice]
  rfl

/-! All eighteen outputs. -/

theorem stateSignature_ofBits (w : Raw) :
    stateSignature (Frame.ofBits w) = BitVec.ofNat 8 (slice w 7 4 * 16 ||| slice w 10 8 * 8 ||| slice w 15 15) := by
  rw [← stateSignature_ofBits_toNat, BitVec.ofNat_toNat, BitVec.setWidth_eq]

/-- The decoder's outputs are those of the second transcription, each by the lemma about its function (41_frame_decoder.md R100). -/
theorem decoderOut_ofBits (b : Build) (w : Raw) : decoderOut b (Frame.ofBits w) = outputsOfBits b w := by
  have hstd : isStandardRc (Frame.ofBits w) = (outputsOfBits b w).isStandardRc :=
    Bool.eq_iff_iff.mpr ((isStandardRc_iff_slices w).trans decide_eq_true_iff.symm)
  have hpwm : isPwmRc (Frame.ofBits w) = (outputsOfBits b w).isPwmRc :=
    Bool.eq_iff_iff.mpr ((isPwmRc_iff_slice_modes w).trans decide_eq_true_iff.symm)
  have hext : isExtendedMode (Frame.ofBits w) = (outputsOfBits b w).isExtendedMode :=
    Bool.eq_iff_iff.mpr ((isExtendedMode_iff_slices w).trans decide_eq_true_iff.symm)
  have hcombo : isComboPwmMode (Frame.ofBits w) = (outputsOfBits b w).isComboPwmMode :=
    Bool.eq_iff_iff.mpr ((isComboPwmMode_iff_slice w).trans decide_eq_true_iff.symm)
  rw [decoderOut, checksumOk_ofBits, hstd, hpwm, hext, hcombo, singleOutputPort_ofBits, redCommand_ofBits,
    blueCommand_ofBits, redEffected_ofBits, blueEffected_ofBits, stateSignature_ofBits, extractLsb'_eq_ofNat_slice w 8 8,
    ofBits_eq_slices]
  rfl

/-! The registers' edge and the decoder behind it. -/

/-- The registers' edge writes neither the decoder's ports nor the parameters (41_frame_decoder.md R100, 10_state.md R19). -/
theorem registerEdge_frame {s x : State} (h : registerEdge s = .next x) :
    x.out = s.out ∧ x.decFrame = s.decFrame ∧ x.build = s.build ∧ x.wiring = s.wiring := by
  obtain ⟨y, hy, hc⟩ := registerEdge_next s
  obtain rfl := Host.Outcome.next.inj (hy.symm.trans h)
  obtain ⟨-, rfl⟩ | ⟨-, -, t, rfl, ⟨-, ht⟩ | ⟨-, rfl⟩⟩ | ⟨-, -, rfl⟩ := hc
  · simp
  · rw [eventStep_frame ht]
    simp
  · simp
  · simp

/-- Every step is a registers' edge, settled. -/
theorem step_eq_settled {s u : State} (hu : step s = .next u) :
    ∃ x, registerEdge (sampleInputs s) = .next x ∧ u = settled x := by
  obtain ⟨x, hx, -⟩ := registerEdge_next (sampleInputs s)
  exact ⟨x, hx, (Host.Outcome.next.inj ((step_of_registerEdge hx).symm.trans hu)).symm⟩

theorem driveDecFrame_decFrame_of_separate {t : State} (h : t.wiring = .separate) :
    (driveDecFrame t).decFrame = t.decFrame := by
  simp [driveDecFrame, h]

theorem driveDecFrame_decFrame_of_direct {t : State} (h : t.wiring = .direct) : (driveDecFrame t).decFrame = t.raw := by
  simp [driveDecFrame, h]

theorem settled_decFrame (t : State) : (settled t).decFrame = (driveDecFrame t).decFrame := rfl

/-- A settled decoder shows the second transcription's outputs (41_frame_decoder.md R100). -/
theorem settled_out (t : State) : (settled t).out = outputsOfBits (settled t).build (settled t).decFrame := by
  rw [settled_build]
  exact decoderOut_ofBits _ _

/-- A step writes neither a parameter nor the wiring (10_state.md R19, 20_memory.md R41). -/
theorem step_frame {s u : State} (hu : step s = .next u) : u.build = s.build ∧ u.wiring = s.wiring := by
  obtain ⟨x, hx, rfl⟩ := step_eq_settled hu
  obtain ⟨-, -, hb, hw⟩ := registerEdge_frame hx
  simp [hb, hw]

/-- The outputs after every step (41_frame_decoder.md R100, 70_reset_and_hazards.md R180). -/
theorem step_out {s u : State} (hu : step s = .next u) : u.out = outputsOfBits u.build u.decFrame := by
  obtain ⟨x, -, rfl⟩ := step_eq_settled hu
  exact settled_out x

/-- In the separate wiring the decoder reads the value captured (41_frame_decoder.md R100). -/
theorem step_decFrame_of_separate {s u : State} (hs : s.wiring = .separate) (hu : step s = .next u) :
    u.decFrame = (sampleInputs s).decFrame := by
  obtain ⟨x, hx, rfl⟩ := step_eq_settled hu
  obtain ⟨-, hd, -, hw⟩ := registerEdge_frame hx
  rw [settled_decFrame, driveDecFrame_decFrame_of_separate (by simp [hw, hs]), hd]

/-- In the direct wiring the decoder reads `frame_data` (41_frame_decoder.md R100). -/
theorem step_decFrame_of_direct {s u : State} (hs : s.wiring = .direct) (hu : step s = .next u) : u.decFrame = u.raw := by
  obtain ⟨x, hx, rfl⟩ := step_eq_settled hu
  obtain ⟨-, -, -, hw⟩ := registerEdge_frame hx
  rw [settled_decFrame, driveDecFrame_decFrame_of_direct (by simp [hw, hs]), settled_raw]

/-! The checksum, as one sum over the word. -/

/-- The exclusive-or of the four nibbles of a word (30_encoding.md R48); the checksum is right where it is 0xF. -/
def nibbleSum (w : Raw) : Nibble := w.extractLsb' 12 4 ^^^ w.extractLsb' 8 4 ^^^ w.extractLsb' 4 4 ^^^ w.extractLsb' 0 4

/-- The checksum test of 41_frame_decoder.md R103 with the fourth nibble moved to the other side. -/
theorem nibble_test_iff (a b c d : Nibble) : 0xF#4 ^^^ a ^^^ b ^^^ c = d ↔ a ^^^ b ^^^ c ^^^ d = 0xF#4 := by
  rw [BitVec.xor_assoc, BitVec.xor_assoc, ← BitVec.xor_assoc a, BitVec.xor_comm (0xF#4)]
  constructor
  · rintro rfl
    rw [← BitVec.xor_assoc, BitVec.xor_self, BitVec.zero_xor]
  · intro h
    rw [← h, ← BitVec.xor_assoc, BitVec.xor_self, BitVec.zero_xor]

theorem checksumOk_ofBits_iff_nibbleSum (w : Raw) : checksumOk (Frame.ofBits w) = true ↔ nibbleSum w = 0xF#4 := by
  rw [checksumOk, beq_iff_eq, nibble_test_iff, nibble1_ofBits, nibble2_ofBits]
  rfl

/-- The sum is linear. -/
theorem nibbleSum_xor (v w : Raw) : nibbleSum (v ^^^ w) = nibbleSum v ^^^ nibbleSum w := by
  simp only [nibbleSum, BitVec.extractLsb'_xor]
  ac_rfl

/-- One bit alone never sums to 0. -/
theorem nibbleSum_one_shiftLeft_ne_zero {i : Nat} (hi : i < 16) : nibbleSum (1#16 <<< i) ≠ 0 := by
  revert i; decide

/-! The commands by class (41_frame_decoder.md section 5). -/

theorem stdCmd_mem (b : Build) (c : BitVec 2) : stdCmd b c ∈ [Command.stop, .forward, .backward] := by
  unfold stdCmd
  split_ifs
  · decide
  · decide
  · decide
  · cases b.stdCode3 <;> decide

theorem pwmCmd_mem (b : Build) (d : BitVec 4) : pwmCmd b d ∈ [Command.increase, .decrease, .reset, b.pwmOther] := by
  unfold pwmCmd
  split_ifs <;> simp

theorem isStandardRc_eq_false_of_isPwmRc {f : Frame} (h : isPwmRc f = true) : isStandardRc f = false := by
  obtain ⟨-, hm⟩ := (isPwmRc_iff f).mp h
  obtain hm | hm | hm := hm <;> simp [isStandardRc, hm]

theorem commands_of_standard (b : Build) {f : Frame} (h : isStandardRc f = true) :
    redCommand b f = stdCmd b (redSub f.data) ∧ blueCommand b f = stdCmd b (blueSub f.data) :=
  ⟨if_pos h, if_pos h⟩

theorem commands_of_pwm_red (b : Build) {f : Frame} (h : isPwmRc f = true) (hm : f.mode = 4) :
    redCommand b f = pwmCmd b f.data ∧ blueCommand b f = .notApplicable := by
  simp [redCommand, blueCommand, isStandardRc_eq_false_of_isPwmRc h, h, singleOutputPort, hm]

theorem commands_of_pwm_blue (b : Build) {f : Frame} (h : isPwmRc f = true) (hm : f.mode ≠ 4) :
    redCommand b f = .notApplicable ∧ blueCommand b f = pwmCmd b f.data := by
  obtain ⟨-, h4 | h5 | h7⟩ := (isPwmRc_iff f).mp h
  · exact absurd h4 hm
  · simp [redCommand, blueCommand, isStandardRc_eq_false_of_isPwmRc h, h, singleOutputPort, h5]
  · simp [redCommand, blueCommand, isStandardRc_eq_false_of_isPwmRc h, h, singleOutputPort, h7]

theorem commands_of_neither (b : Build) {f : Frame} (hs : isStandardRc f = false) (hp : isPwmRc f = false) :
    redCommand b f = .notApplicable ∧ blueCommand b f = .notApplicable := by
  simp [redCommand, blueCommand, hs, hp]

/-! The command rows alone (30_encoding.md section 3). -/

theorem exec_stdRedRow (f : Frame) (s : State) :
    exec (stdRedRow f) s = .next (driveRed (stdCmd s.build (redSub f.data)) s) := by
  unfold stdRedRow stdCmd
  split_ifs <;> rfl

theorem exec_stdBlueRow (f : Frame) (s : State) :
    exec (stdBlueRow f) s = .next (driveBlue (stdCmd s.build (blueSub f.data)) s) := by
  unfold stdBlueRow stdCmd
  split_ifs <;> rfl

theorem exec_pwmRowM4 (f : Frame) (s : State) :
    exec (pwmRowM4 f) s = .next (driveCommands (pwmCmd s.build f.data) .notApplicable s) := by
  unfold pwmRowM4 pwmCmd
  split_ifs <;> rfl

theorem exec_pwmRowM5 (f : Frame) (s : State) :
    exec (pwmRowM5 f) s = .next (driveCommands .notApplicable (pwmCmd s.build f.data) s) := by
  unfold pwmRowM5 pwmCmd
  split_ifs <;> rfl

theorem exec_pwmRowM7 (f : Frame) (s : State) :
    exec (pwmRowM7 f) s = .next (driveCommands .notApplicable (pwmCmd s.build f.data) s) := by
  unfold pwmRowM7 pwmCmd
  split_ifs <;> rfl

theorem commandRows_of_standard {f : Frame} (h : isStandardRc f = true) : commandRows f = [stdRedRow f, stdBlueRow f] := by
  obtain ⟨he, hm⟩ := (isStandardRc_iff f).mp h
  simp [commandRows, he, hm]

/-- The one command row of a pwm_rc frame, by its mode. -/
theorem commandRows_of_pwm {f : Frame} (h : isPwmRc f = true) :
    (f.mode = 4 ∧ commandRows f = [pwmRowM4 f]) ∨ (f.mode = 5 ∧ commandRows f = [pwmRowM5 f]) ∨
      (f.mode = 7 ∧ commandRows f = [pwmRowM7 f]) := by
  obtain ⟨he, hm | hm | hm⟩ := (isPwmRc_iff f).mp h <;> simp [commandRows, he, hm]

theorem commandRows_of_neither {f : Frame} (hs : isStandardRc f = false) (hp : isPwmRc f = false) :
    commandRows f = [] := by
  rw [Bool.eq_false_iff, ne_eq, isStandardRc_iff, not_and] at hs
  rw [Bool.eq_false_iff, ne_eq, isPwmRc_iff, not_and, not_or, not_or] at hp
  obtain he | he := bit_cases f.escape
  · obtain ⟨h4, h5, h7⟩ := hp he
    rw [commandRows, if_neg (by simp [he]), if_neg (hs he), if_neg h4, if_neg h5, if_neg h7]
  · simp [commandRows, he]

/-! The statements. -/

/-- Settles O49: a step ends with the decoder settled, and each settled output is that of the second transcription. -/
theorem decoderOutputsFollowTheFrame : Obligations.DecoderOutputsFollowTheFrame := fun _ _ hu => step_out hu

/-- Settles O52: the direct wiring puts `RAW` at `dec_frame`, whose outputs a step leaves on the wires. -/
theorem directWiringDecodesTheFrameOnThePort : Obligations.DirectWiringDecodesTheFrameOnThePort := by
  intro s t hs ht
  have hd : t.decFrame = frameDataPort t := step_decFrame_of_direct hs ht
  have ho : t.out = outputsOfBits t.build (frameDataPort t) := hd ▸ step_out ht
  refine ⟨hd, ho, fun v hv => ?_⟩
  obtain ⟨-, hv⟩ := Option.ite_none_right_eq_some.mp hv
  exact Option.some.inj hv ▸ ho

/-- Settles O43: the row drives `redCommand`, which is the second transcription's. -/
theorem redCommandOutput : Obligations.RedCommandOutput := by
  intro w s
  rw [exec, execRedCommand, redCommand_ofBits]
  rfl

/-- Settles O44: the row drives `blueCommand`, which is the second transcription's. -/
theorem blueCommandOutput : Obligations.BlueCommandOutput := by
  intro w s
  rw [exec, execBlueCommand, blueCommand_ofBits]
  rfl

/-- Settles O45: the commands of each class, and the ranges of `stdCmd` and `pwmCmd`. -/
theorem commandsByClass : Obligations.CommandsByClass := by
  intro b f
  refine ⟨fun h => ?_, fun h hm => ?_, fun h hm => ?_, commands_of_neither b⟩
  · obtain ⟨hr, hb⟩ := commands_of_standard b h
    exact ⟨hr ▸ stdCmd_mem b _, hb ▸ stdCmd_mem b _⟩
  · obtain ⟨hr, hb⟩ := commands_of_pwm_red b h hm
    exact ⟨hr ▸ pwmCmd_mem b _, hb⟩
  · obtain ⟨hr, hb⟩ := commands_of_pwm_blue b h hm
    exact ⟨hr, hb ▸ pwmCmd_mem b _⟩

/-- Settles O50: by class, the command rows drive what the functions of that class compute; a frame of neither class has none. -/
theorem commandRowsAgreeWithFunctions : Obligations.CommandRowsAgreeWithFunctions := by
  intro f s
  cases hs : isStandardRc f with
  | true =>
    obtain ⟨hr, hb⟩ := commands_of_standard s.build hs
    refine ⟨driveBlue (stdCmd s.build (blueSub f.data)) (driveRed (stdCmd s.build (redSub f.data)) s), ?_, ?_, ?_⟩
    · simp [commandRows_of_standard hs, runRows, exec_stdRedRow, exec_stdBlueRow]
    · simp [hr, hb]
    · simp [commandRows_of_standard hs]
  | false =>
    cases hp : isPwmRc f with
    | true =>
      obtain ⟨hm, hrows⟩ | ⟨hm, hrows⟩ | ⟨hm, hrows⟩ := commandRows_of_pwm hp
      · obtain ⟨hr, hb⟩ := commands_of_pwm_red s.build hp hm
        simp [hrows, runRows, exec_pwmRowM4, hr, hb]
      · obtain ⟨hr, hb⟩ := commands_of_pwm_blue s.build hp (by simp [hm])
        simp [hrows, runRows, exec_pwmRowM5, hr, hb]
      · obtain ⟨hr, hb⟩ := commands_of_pwm_blue s.build hp (by simp [hm])
        simp [hrows, runRows, exec_pwmRowM7, hr, hb]
    | false => simp [commandRows_of_neither hs hp, runRows]

/-- Settles O34: the accepted checksum is the exclusive-or the test computes; a flipped bit changes the sum of the nibbles. -/
theorem checksumDetectsEverySingleBitError : Obligations.ChecksumDetectsEverySingleBitError := by
  refine ⟨fun f => ⟨0xF#4 ^^^ nibble1 f ^^^ nibble2 f ^^^ nibble3 f, fun k' => ?_⟩, fun w i hi hw => ?_⟩
  · rw [checksumOk, beq_iff_eq, eq_comm]
    rfl
  · rw [checksumOk_ofBits_iff_nibbleSum] at hw
    rw [Bool.eq_false_iff, ne_eq, checksumOk_ofBits_iff_nibbleSum, nibbleSum_xor, hw]
    intro h
    exact nibbleSum_one_shiftLeft_ne_zero hi (by simpa using h)

/-- Settles O38: the classes and the flags depend on `escape` and `mode` only; each of their values is evaluated. -/
theorem classesExcludeEachOther : Obligations.ClassesExcludeEachOther := by
  rintro ⟨t, e, c, a, m, d, k⟩
  simp only [isStandardRc, isPwmRc, isExtendedMode, isComboPwmMode, redEffected, blueEffected, singleOutputPort]
  revert e m
  decide

/-- Settles O36: each row's meaning is `driveClass` with the four values of its class. -/
theorem classRowsDriveTheirClass : Obligations.ClassRowsDriveTheirClass := by
  intro h m d s
  refine ⟨rfl, rfl, ?_, ?_, rfl⟩ <;> simp only [List.forall_mem_cons, List.not_mem_nil, false_imp_iff, implies_true]
  · exact ⟨rfl, rfl, rfl, trivial⟩
  · exact ⟨rfl, rfl, rfl, trivial⟩

/-- Settles O39: each row's meaning is `driveRed` with its command. -/
theorem stdRedRowsDriveRed : Obligations.StdRedRowsDriveRed := fun _ _ _ => ⟨rfl, rfl, rfl, rfl⟩

/-- Settles O40: each row's meaning is `driveBlue` with its command. -/
theorem stdBlueRowsDriveBlue : Obligations.StdBlueRowsDriveBlue := fun _ _ _ => ⟨rfl, rfl, rfl, rfl⟩

/-- Settles O41: each row's meaning is `driveCommands` with its command and NotApplicable. -/
theorem pwmRedRowsDriveRed : Obligations.PwmRedRowsDriveRed := fun _ _ _ => ⟨rfl, rfl, rfl, rfl⟩

/-- Settles O42: each row's meaning is `driveCommands` with NotApplicable and its command, in both modes. -/
theorem pwmBlueRowsDriveBlue : Obligations.PwmBlueRowsDriveBlue := by
  intro h d s
  simp only [List.forall_mem_cons, List.not_mem_nil, false_imp_iff, implies_true]
  exact ⟨⟨rfl, rfl, trivial⟩, ⟨rfl, rfl, trivial⟩, ⟨rfl, rfl, trivial⟩, rfl, rfl, trivial⟩

end Sys2Proof.Machine
end

section
/-!
PROOFS of the statements about one event (40_demodulator.md sections 1.1 to 1.4) and about runs of events. First the event-level
table, then the frame being collected in Sampling and the invariant of a run that starts in Idle, then the statements.
-/

namespace Sys2Proof.Machine

/-! One event. -/

theorem bitSymbol_iff (dt : Nat) : bitSymbol dt ↔ 317 ≤ dt ∧ dt ≤ 946 := by
  obtain ⟨-, hlow, hhigh, -, -⟩ := classifyPartitionsTime dt
  rw [bitSymbol, hlow, hhigh]
  omega

theorem classify_ss_iff (dt : Nat) : classify dt = .ss ↔ 947 ≤ dt ∧ dt ≤ 1559 := by
  obtain ⟨-, -, -, hss, -⟩ := classifyPartitionsTime dt
  rw [hss]
  omega

/-- A bit symbol is `HIGH` from 526 microseconds on (30_encoding.md R46). -/
theorem bitSymbol_high_iff {dt : Nat} (h : bitSymbol dt) : classify dt = .high ↔ 526 ≤ dt := by
  obtain ⟨-, -, hhigh, -, -⟩ := classifyPartitionsTime dt
  rw [bitSymbol_iff] at h
  rw [hhigh]
  omega

/-- The value `RAW` takes in Sampling at a bit symbol of this time (40_demodulator.md R81, R82). -/
def takeBit (dt : Nat) (raw : Raw) (pos : Pos) : Raw := if 526 ≤ dt then setBitAt raw pos else raw

/-- Bit `POS` is 1 for `HIGH` and as before for `LOW`; the other bits are as before. -/
theorem getLsbD_takeBit (dt : Nat) (raw : Raw) (pos : Pos) (i : Nat) :
    (takeBit dt raw pos).getLsbD i = ((decide (526 ≤ dt) && decide (i = pos.toNat)) || raw.getLsbD i) := by
  unfold takeBit
  split_ifs with h
  · simp [getLsbD_setBitAt, h]
  · simp [h]

/-- Every event completes (40_demodulator.md R84). -/
theorem eventStep_completes (dt : Nat) (s : State) : ∃ t, eventStep dt s = .next t :=
  exec_completes (decodeSym s.state dt) (clearStrobe s)

/-- A start pulse opens a frame from either state (40_demodulator.md R79, R80). -/
theorem eventStep_ss {dt : Nat} (h : classify dt = .ss) (s : State) :
    eventStep dt s = .next { s with state := .sampling, pos := 15, raw := 0x0000, frameValid := false } := by
  rw [eventStep_table, h]
  cases hs : s.state
  · rfl
  · simp [alignFrame, clearStrobe, ← hs]

/-- An event outside the other windows is a timing error (40_demodulator.md R77). -/
theorem eventStep_timing_error {dt : Nat} (h : classify dt = .short ∨ classify dt = .long) (s : State) :
    eventStep dt s = .next (forceIdle (clearStrobe s)) := by
  obtain h | h := h <;> rw [eventStep_table, h]

/-- A bit symbol in Idle is ignored (40_demodulator.md R78). -/
theorem eventStep_bit_idle {dt : Nat} (h : bitSymbol dt) {s : State} (hs : s.state = .idle) :
    eventStep dt s = .next (clearStrobe s) := by
  obtain h | h := h <;> rw [eventStep_table, h, hs]

/-- A bit symbol in Sampling is one position step with the bit taken (40_demodulator.md R81 to R83). -/
theorem eventStep_bit_sampling {dt : Nat} (h : bitSymbol dt) {s : State} (hs : s.state = .sampling) :
    eventStep dt s = .next (positionStep (takeBit dt s.raw s.pos) (clearStrobe s)) := by
  have hhigh := bitSymbol_high_iff h
  obtain h | h := h
  · rw [takeBit, if_neg (by simp [← hhigh, h]), eventStep_table, h, hs]
  · rw [takeBit, if_pos (hhigh.mp h), eventStep_table, h, hs]

/-- The five windows, as an event sees them. -/
theorem symbol_cases (dt : Nat) : (classify dt = .short ∨ classify dt = .long) ∨ classify dt = .ss ∨ bitSymbol dt := by
  cases h : classify dt <;> simp [bitSymbol, h]

theorem timing_error_iff (dt : Nat) : (classify dt = .short ∨ classify dt = .long) ↔ dt ≤ 316 ∨ 1560 ≤ dt := by
  obtain ⟨hshort, -, -, -, hlong⟩ := classifyPartitionsTime dt
  rw [hshort, hlong]

/-- A guarded rule does its one effect or nothing. -/
theorem eq_or_eq_of_guarded {c : Prop} [Decidable c] {a s t : State}
    (h : (if c then .next a else .next s : Host.Outcome State Fault Refusal) = .next t) : t = s ∨ t = a := by
  split_ifs at h
  · exact .inr (Host.Outcome.next.inj h).symm
  · exact .inl (Host.Outcome.next.inj h).symm

/-- Everything a symbol row can do, whatever its operand: nothing, outside its guard, or its rule's one effect
(40_demodulator.md R77 to R83; log entry 13). -/
theorem symbolRow_cases {dt : Nat} {s t : State} {i : Instr}
    (hi : i ∈ [Instr.short dt, .long dt, .lowIdle dt, .highIdle dt, .ssIdle dt, .ssSampling dt, .highSampling dt,
      .lowSampling dt]) (h : exec i s = .next t) :
    t = s ∨ ((i = .short dt ∨ i = .long dt) ∧ t = forceIdle s) ∨
      (i = .ssIdle dt ∧ t = { alignFrame s with state := .sampling }) ∨ (i = .ssSampling dt ∧ t = alignFrame s) ∨
      (i = .highSampling dt ∧ t = positionStep (setBitAt s.raw s.pos) s) ∨
      (i = .lowSampling dt ∧ t = positionStep s.raw s) := by
  simp only [List.mem_cons, List.not_mem_nil, or_false] at hi
  obtain rfl | rfl | rfl | rfl | rfl | rfl | rfl | rfl := hi
  · exact (eq_or_eq_of_guarded h).imp_right fun ht => .inl ⟨.inl rfl, ht⟩
  · exact (eq_or_eq_of_guarded h).imp_right fun ht => .inl ⟨.inr rfl, ht⟩
  · exact .inl (Host.Outcome.next.inj h).symm
  · exact .inl (Host.Outcome.next.inj h).symm
  · exact (eq_or_eq_of_guarded h).imp_right fun ht => .inr (.inl ⟨rfl, ht⟩)
  · exact (eq_or_eq_of_guarded h).imp_right fun ht => .inr (.inr (.inl ⟨rfl, ht⟩))
  · exact (eq_or_eq_of_guarded h).imp_right fun ht => .inr (.inr (.inr (.inl ⟨rfl, ht⟩)))
  · exact (eq_or_eq_of_guarded h).imp_right fun ht => .inr (.inr (.inr (.inr ⟨rfl, ht⟩)))

/-! The frame being collected. -/

/-- The value's bits are those of the bit symbols, the first one in bit 15, and 0 where no symbol has come yet
(30_encoding.md R49). -/
def FrameBits (bs : List Nat) (v : Raw) : Prop := ∀ k < 16, v.getLsbD (15 - k) = decide (526 ≤ bs.getD k 0)

/-- In Sampling, with the bit symbols `bs` taken since the start pulse. -/
structure Collecting (bs : List Nat) (s : State) : Prop where
  state : s.state = .sampling
  pos : s.pos.toNat + bs.length = 15
  bits : FrameBits bs s.raw

/-- Taking one more bit at the position that is due. -/
theorem FrameBits.append_bit {bs : List Nat} {raw : Raw} {pos : Pos} (h : FrameBits bs raw) (hp : pos.toNat + bs.length = 15)
    (d : Nat) : FrameBits (bs ++ [d]) (takeBit d raw pos) := by
  intro k hk
  have hpos : decide (15 - k = pos.toNat) = decide (k = bs.length) := decide_eq_decide.mpr (by omega)
  rw [getLsbD_takeBit, h k hk, hpos]
  obtain hlt | rfl | hgt := Nat.lt_trichotomy k bs.length
  · simp [List.getElem?_append_left hlt, hlt.ne]
  · simp
  · have hnone : (bs ++ [d])[k]? = none := List.getElem?_eq_none (by simp; omega)
    simp [List.getElem?_eq_none hgt.le, hgt.ne', hnone]

/-- A start pulse begins an empty frame. -/
theorem Collecting.nil_of_ss {d : Nat} (hd : classify d = .ss) (s : State) :
    ∃ t, eventStep d s = .next t ∧ t.frameValid = false ∧ Collecting [] t :=
  ⟨_, eventStep_ss hd s, rfl, rfl, rfl, fun k _ => by simp⟩

/-- One of the first fifteen bits. -/
theorem Collecting.next_bit {bs : List Nat} {s : State} (h : Collecting bs s) {d : Nat} (hd : bitSymbol d)
    (hlen : bs.length < 15) : ∃ t, eventStep d s = .next t ∧ t.frameValid = false ∧ Collecting (bs ++ [d]) t := by
  obtain ⟨hs, hp, hb⟩ := h
  refine ⟨_, eventStep_bit_sampling hd hs, ?_⟩
  rw [positionStep_of_pos_ne_zero _ (by simp; omega)]
  refine ⟨rfl, hs, ?_, hb.append_bit hp d⟩
  simp
  omega

/-- The sixteenth bit hands the frame out. -/
theorem Collecting.last_bit {bs : List Nat} {s : State} (h : Collecting bs s) {d : Nat} (hd : bitSymbol d)
    (hlen : bs.length = 15) :
    ∃ t, eventStep d s = .next t ∧ t.frameValid = true ∧ t.state = .idle ∧ t.pos = 15 ∧ FrameBits (bs ++ [d]) t.raw := by
  obtain ⟨hs, hp, hb⟩ := h
  refine ⟨_, eventStep_bit_sampling hd hs, ?_⟩
  rw [positionStep_of_pos_eq_zero _ (by simp; omega)]
  exact ⟨rfl, rfl, rfl, hb.append_bit hp d⟩

/-! Runs of events. -/

theorem eventRun_cons {d : Nat} {ds : List Nat} {s t u : State} {vs : List Raw} (ht : eventStep d s = .next t)
    (hu : eventRun ds t = .next (u, vs)) : eventRun (d :: ds) s = .next (u, emitted t ++ vs) := by
  simp only [eventRun, ht, hu]

/-- So every run completes. -/
theorem eventRun_completes (ds : List Nat) (s : State) : ∃ u vs, eventRun ds s = .next (u, vs) := by
  induction ds generalizing s with
  | nil => exact ⟨s, [], rfl⟩
  | cons d rest ih =>
    obtain ⟨t, ht⟩ := eventStep_completes d s
    obtain ⟨u, vs, hu⟩ := ih t
    exact ⟨u, _, eventRun_cons ht hu⟩

theorem emitted_of_frameValid {t : State} (h : t.frameValid = true) : emitted t = [t.raw] := by
  simp [emitted, frameOffered, h]

theorem emitted_of_not_frameValid {t : State} (h : t.frameValid = false) : emitted t = [] := by
  simp [emitted, frameOffered, h]

/-- The bit symbols that are left complete the frame, and nothing is emitted before. -/
theorem eventRun_of_collecting {ds bs : List Nat} {s : State} (h : Collecting bs s) (hlen : bs.length + ds.length = 16)
    (hds : ∀ d ∈ ds, bitSymbol d) :
    ∃ t, eventRun ds s = .next (t, [t.raw]) ∧ t.state = .idle ∧ t.pos = 15 ∧ FrameBits (bs ++ ds) t.raw := by
  induction ds generalizing bs s with
  | nil =>
    have hp := h.pos
    simp only [List.length_nil] at hlen
    omega
  | cons d rest ih =>
    obtain ⟨hd, hrest⟩ := List.forall_mem_cons.mp hds
    rw [List.length_cons] at hlen
    by_cases hlast : bs.length = 15
    · obtain rfl : rest = [] := List.eq_nil_of_length_eq_zero (by omega)
      obtain ⟨t, ht, hv, hi, hp, hb⟩ := h.last_bit hd hlast
      exact ⟨t, by simpa [emitted_of_frameValid hv] using eventRun_cons ht rfl, hi, hp, hb⟩
    · obtain ⟨t, ht, hv, hc⟩ := h.next_bit hd (by omega)
      obtain ⟨u, hu, hi, hp, hb⟩ := ih hc (by simp; omega) hrest
      refine ⟨u, ?_, hi, hp, by simpa using hb⟩
      simpa [emitted_of_not_frameValid hv] using eventRun_cons ht hu

/-- After the events `hist`, from Idle on: Idle, or a frame is being collected from the start pulse that came last. -/
def Tracked (hist : List Nat) (s : State) : Prop :=
  s.state = .idle ∨
    ∃ (p : List Nat) (d0 : Nat) (bs : List Nat), hist = p ++ d0 :: bs ∧ classify d0 = .ss ∧ (∀ b ∈ bs, bitSymbol b) ∧
      Collecting bs s

/-- Every event keeps it. -/
theorem Tracked.after_event {hist : List Nat} {s t : State} {d : Nat} (h : Tracked hist s) (ht : eventStep d s = .next t) :
    Tracked (hist ++ [d]) t := by
  obtain hd | hd | hd := symbol_cases d
  · rw [eventStep_timing_error hd] at ht
    obtain rfl := Host.Outcome.next.inj ht
    exact .inl rfl
  · obtain ⟨u, hu, -, hc⟩ := Collecting.nil_of_ss hd s
    obtain rfl := Host.Outcome.next.inj (hu.symm.trans ht)
    exact .inr ⟨hist, d, [], rfl, hd, by simp, hc⟩
  · obtain hi | ⟨p, d0, bs, rfl, h0, hbs, hc⟩ := h
    · rw [eventStep_bit_idle hd hi] at ht
      obtain rfl := Host.Outcome.next.inj ht
      exact .inl hi
    · by_cases hlast : bs.length = 15
      · obtain ⟨u, hu, -, hi, -⟩ := hc.last_bit hd hlast
        obtain rfl := Host.Outcome.next.inj (hu.symm.trans ht)
        exact .inl hi
      · have hp := hc.pos
        obtain ⟨u, hu, -, hc'⟩ := hc.next_bit hd (by omega)
        obtain rfl := Host.Outcome.next.inj (hu.symm.trans ht)
        refine .inr ⟨p, d0, bs ++ [d], by simp, h0, ?_, hc'⟩
        simpa [or_imp, forall_and] using ⟨hbs, hd⟩

/-- So every run keeps it. -/
theorem Tracked.after_run {pre hist : List Nat} {s m : State} {vs : List Raw} (h : Tracked hist s)
    (hm : eventRun pre s = .next (m, vs)) : Tracked (hist ++ pre) m := by
  induction pre generalizing hist s vs with
  | nil =>
    obtain ⟨rfl, -⟩ := Prod.mk.inj (Host.Outcome.next.inj hm)
    simpa using h
  | cons d rest ih =>
    obtain ⟨t, ht⟩ := eventStep_completes d s
    obtain ⟨u, ws, hu⟩ := eventRun_completes rest t
    obtain ⟨rfl, -⟩ := Prod.mk.inj (Host.Outcome.next.inj ((eventRun_cons ht hu).symm.trans hm))
    simpa using ih (h.after_event ht) hu

/-- An emission after a run from Idle comes from a start pulse and sixteen bit symbols (40_demodulator.md R86). -/
theorem Tracked.emission {hist : List Nat} {m t : State} {d : Nat} (h : Tracked hist m) (ht : eventStep d m = .next t)
    (hv : t.frameValid = true) :
    ∃ (p : List Nat) (d0 : Nat) (bs : List Nat), hist = p ++ d0 :: bs ∧ bs.length = 15 ∧ classify d0 = .ss ∧
      (∀ b ∈ bs ++ [d], bitSymbol b) ∧ FrameBits (bs ++ [d]) t.raw := by
  obtain ⟨hs, hp, hd⟩ := (eventStep_frameValid ht).mp hv
  obtain hi | ⟨p, d0, bs, rfl, h0, hbs, hc⟩ := h
  · simp [hs] at hi
  · have hlen : bs.length = 15 := by simpa [hp] using hc.pos
    obtain ⟨u, hu, -, -, -, hb⟩ := hc.last_bit hd hlen
    obtain rfl := Host.Outcome.next.inj (hu.symm.trans ht)
    refine ⟨p, d0, bs, rfl, hlen, h0, ?_, hb⟩
    simpa [or_imp, forall_and] using ⟨hbs, hd⟩

/-! The statements. -/

/-- Settles O8: where the guard fails nothing changes, and where it holds each row's one effect is read off. -/
theorem symbolRowFrame : Obligations.SymbolRowFrame := by
  intro dt s t i hi h
  obtain rfl | ⟨rfl | rfl, rfl⟩ | ⟨rfl, rfl⟩ | ⟨rfl, rfl⟩ | ⟨rfl, rfl⟩ | ⟨rfl, rfl⟩ := symbolRow_cases hi h
  · simp
  · simp [forceIdle]
  · simp [forceIdle]
  · simp [alignFrame]
  · simp [alignFrame]
  · exact ⟨positionStep_frame _ s, by simp⟩
  · exact ⟨positionStep_frame _ s, by simp⟩

/-- Settles O9: the table's lines are the timing errors, the start pulse, and a bit symbol in Idle and in Sampling. -/
theorem eventTransitionTable : Obligations.EventTransitionTable := by
  intro dt s
  obtain ⟨t, ht⟩ := eventStep_completes dt s
  refine ⟨t, ht, eventStep_frame ht, ?_⟩
  by_cases hd : dt ≤ 316 ∨ 1560 ≤ dt
  · rw [eventStep_timing_error ((timing_error_iff dt).mpr hd)] at ht
    obtain rfl := Host.Outcome.next.inj ht
    simp [hd]
  · by_cases hss : 947 ≤ dt
    · rw [eventStep_ss ((classify_ss_iff dt).mpr (by omega))] at ht
      obtain rfl := Host.Outcome.next.inj ht
      simp [hd, hss]
    · have hb : bitSymbol dt := (bitSymbol_iff dt).mpr (by omega)
      rw [if_neg hd, if_neg hss]
      cases hs : s.state with
      | idle =>
        rw [eventStep_bit_idle hb hs] at ht
        obtain rfl := Host.Outcome.next.inj ht
        simp [hs]
      | sampling =>
        rw [eventStep_bit_sampling hb hs] at ht
        obtain rfl := Host.Outcome.next.inj ht
        by_cases hp : s.pos = 0
        · have hpc : ¬ (clearStrobe s).pos ≠ 0 := not_not_intro hp
          rw [positionStep, if_neg hpc, if_pos hp]
          rfl
        · have hpc : (clearStrobe s).pos ≠ 0 := hp
          rw [positionStep, if_pos hpc, if_neg hp]
          exact Prod.ext hs rfl

/-- Settles O11: the start pulse begins an empty frame, which the sixteen bit symbols complete. -/
theorem sixteenBitSymbolsAssembleOneFrame : Obligations.SixteenBitSymbolsAssembleOneFrame := by
  intro s d0 ds hlo hhi hlen hds
  obtain ⟨t, ht, hv, hc⟩ := Collecting.nil_of_ss ((classify_ss_iff d0).mpr ⟨hlo, hhi⟩) s
  obtain ⟨u, hu, hi, hp, hb⟩ := eventRun_of_collecting hc (by simpa using hlen) fun d hd => (bitSymbol_iff d).mpr (hds d hd)
  refine ⟨u, ?_, hi, hp, hb⟩
  simpa [emitted_of_not_frameValid hv] using eventRun_cons ht hu

/-- Settles O12: `Tracked` holds in Idle, every event keeps it, and it says what an emission comes from. -/
theorem frameNeedsStartPulseAndSixteenBits : Obligations.FrameNeedsStartPulseAndSixteenBits := by
  intro pre d s m t vs hs hm ht hv
  have htracked : Tracked pre m := Tracked.after_run (hist := []) (.inl hs) hm
  obtain ⟨p, d0, bs, rfl, hlen, h0, hbs, hb⟩ := htracked.emission ht hv
  obtain ⟨hlo, hhi⟩ := (classify_ss_iff d0).mp h0
  exact ⟨p, d0, bs, rfl, hlen, hlo, hhi, fun b hb => (bitSymbol_iff b).mp (hbs b hb), hb⟩

/-- An emission leaves the machine in Idle (40_demodulator.md R83). -/
theorem state_idle_of_emission {d : Nat} {r s : State} (h : eventStep d r = .next s) (hv : s.frameValid = true) :
    s.state = .idle := by
  obtain ⟨hs, hp, hd⟩ := (eventStep_frameValid h).mp hv
  rw [eventStep_bit_sampling hd hs, positionStep_of_pos_eq_zero (s := clearStrobe r) _ (congrArg BitVec.toNat hp)] at h
  obtain rfl := Host.Outcome.next.inj h
  rfl

/-- Settles O13: the run starts in Idle, so the second emission has a start pulse and sixteen bit symbols before it (O12), which
take at least 947 and 16 times 317 microseconds. -/
theorem emissionsAreSpaced : Obligations.EmissionsAreSpaced := by
  intro e r s pre d m t vs hs hsv hm ht hv
  obtain ⟨p, d0, bs, rfl, hlen, hlo, -, hbs, -⟩ :=
    frameNeedsStartPulseAndSixteenBits pre d s m t vs (state_idle_of_emission hs hsv) hm ht hv
  have hsum : (bs ++ [d]).length • 317 ≤ (bs ++ [d]).sum := List.card_nsmul_le_sum _ _ fun b hb => (hbs b hb).1
  simp only [List.length_append, List.length_singleton, hlen, smul_eq_mul, List.sum_append, List.sum_cons] at hsum ⊢
  omega

/-- Settles O3: the meaning of both rows is to answer the state as it is. -/
theorem bitSymbolInIdleChangesNothing : Obligations.BitSymbolInIdleChangesNothing := fun _ _ _ =>
  ⟨fun _ _ => rfl, fun _ _ => rfl⟩

/-- Settles O10: the time classifies as a start pulse, which aligns the frame from either state. -/
theorem startPulseSynchronisesFromAnyState : Obligations.StartPulseSynchronisesFromAnyState := fun dt s hlo hhi =>
  eventStep_ss ((classify_ss_iff dt).mpr ⟨hlo, hhi⟩) s

end Sys2Proof.Machine
end

section
/-!
PROOFS of the statements about one step and about runs of steps (40_demodulator.md section 3, 10_state.md). First what a step that
completes a frame leaves and what two steps on the same registers have in common, then the clauses of the invariant, then quiet runs,
then the statements.
-/

namespace Sys2Proof.Machine

/-! Completions. -/

/-- What a step leaves that hands a frame out: the frame with its last bit, and everything ready for the next one
(40_demodulator.md R83, R85). -/
theorem step_completion {s u : State} (h : s.wasReset = true ∨ (sampleInputs s).rst = true) (hu : step s = .next u)
    (hv : u.frameValid = true) :
    u.raw = takeBit (dtNow s).toNat s.raw 0 ∧ bitSymbol (dtNow s).toNat ∧
      u.state = .idle ∧ u.pos = 15 ∧ u.dt = 0 ∧ u.presc = 0 ∧ u.sync2 = false := by
  obtain ⟨hr, hf, hs, hp, hb⟩ := (step_frameValid h hu).mp hv
  have hw : s.wasReset = true := by simpa [hr] using h
  obtain ⟨t, rfl, ⟨-, ht⟩ | ⟨hf', -⟩⟩ := step_edge_cases hw hr hu
  · have hpos : (clearStrobe (sampleInputs s)).pos.toNat = 0 := by simp [hp]
    rw [eventStep_bit_sampling hb (by simp [hs]), positionStep_of_pos_eq_zero _ hpos] at ht
    obtain rfl := Host.Outcome.next.inj ht
    obtain ⟨hdt, hpresc⟩ := nextTime_of_fall hf
    obtain ⟨-, hsync⟩ := (fall_iff s).mp hf
    simp [hb, hp, hdt, hpresc, hsync]
  · simp [hf] at hf'

/-! Two steps on the same registers. -/

/-- An event's effect on `STATE`, `POS`, `RAW` and the strobe depends on the first three only (40_demodulator.md R84). -/
theorem eventStep_congr {dt : Nat} {s1 s2 t1 t2 : State} (hs : s1.state = s2.state) (hp : s1.pos = s2.pos)
    (hr : s1.raw = s2.raw) (h1 : eventStep dt s1 = .next t1) (h2 : eventStep dt s2 = .next t2) :
    (t1.state, t1.pos, t1.raw, t1.frameValid) = (t2.state, t2.pos, t2.raw, t2.frameValid) := by
  obtain ⟨v1, hv1, -, e1⟩ := eventTransitionTable dt s1
  obtain ⟨v2, hv2, -, e2⟩ := eventTransitionTable dt s2
  obtain rfl := Host.Outcome.next.inj (hv1.symm.trans h1)
  obtain rfl := Host.Outcome.next.inj (hv2.symm.trans h2)
  rw [e1, e2, hs, hp, hr]

/-- A clock edge without reset reads the registers, the parameters and `ir_in` only (40_demodulator.md R73, R76). -/
theorem step_edge_registers_congr {s1 s2 t1 t2 : State} (hb : s1.build = s2.build) (hreg : s1.registers = s2.registers)
    (hw1 : s1.wasReset = true) (hw2 : s2.wasReset = true) (hr1 : (sampleInputs s1).rst = false)
    (hr2 : (sampleInputs s2).rst = false) (hi : (sampleInputs s1).irIn = (sampleInputs s2).irIn)
    (h1 : step s1 = .next t1) (h2 : step s2 = .next t2) : t1.registers = t2.registers := by
  obtain ⟨hst, hpos, hraw, hdt, hpresc, h0, hs1, hs2, -⟩ := Registers.mk.inj hreg
  have hfall : fall s1 = fall s2 := by rw [fall, fall, hs1, hs2]
  have htick : tick s1 = tick s2 := by rw [tick, tick, hpresc, hb]
  have hnow : dtNow s1 = dtNow s2 := by rw [dtNow, dtNow, htick, hdt]
  have hnextDt : nextDt s1 = nextDt s2 := by rw [nextDt, nextDt, hfall, htick, hdt]
  have hnextPresc : nextPresc s1 = nextPresc s2 := by rw [nextPresc, nextPresc, hfall, htick, hpresc]
  obtain ⟨v1, rfl, hv1⟩ := step_edge_cases hw1 hr1 h1
  obtain ⟨v2, rfl, hv2⟩ := step_edge_cases hw2 hr2 h2
  have hv : (v1.state, v1.pos, v1.raw, v1.frameValid) = (v2.state, v2.pos, v2.raw, v2.frameValid) := by
    rw [hfall, hnow] at hv1
    obtain ⟨hf1, e1⟩ | ⟨hf1, rfl⟩ := hv1 <;> obtain ⟨hf2, e2⟩ | ⟨hf2, rfl⟩ := hv2
    · exact eventStep_congr (by simp [hst]) (by simp [hpos]) (by simp [hraw]) e1 e2
    · simp [hf1] at hf2
    · simp [hf1] at hf2
    · simp [hst, hpos, hraw]
  simp only [Prod.mk.injEq] at hv
  simp [State.registers, hv, hnextDt, hnextPresc, h0, hs1, hi]

/-- A reset leaves the same registers whatever the state before (10_state.md R23). -/
theorem step_reset_registers_congr {s1 s2 t1 t2 : State} (hr1 : (sampleInputs s1).rst = true)
    (hr2 : (sampleInputs s2).rst = true) (h1 : step s1 = .next t1) (h2 : step s2 = .next t2) :
    t1.registers = t2.registers := by
  rw [step_reset hr1] at h1
  rw [step_reset hr2] at h2
  obtain rfl := Host.Outcome.next.inj h1
  obtain rfl := Host.Outcome.next.inj h2
  simp [State.registers]

/-! The clauses of the invariant. -/

/-- The register of the prescaler is wide enough for its range (10_state.md R15). -/
theorem clkPerUs_le_two_pow_prescWidth (b : Build) : b.clkPerUs ≤ 2 ^ b.prescWidth := by
  unfold Build.prescWidth
  split_ifs with h
  · exact h
  · have hlt : b.clkPerUs - 1 < 2 ^ ((b.clkPerUs - 1).log2 + 1) := Nat.lt_log2_self
    omega

theorem nextPresc_lt {s : State} (h : s.presc < s.build.clkPerUs) : nextPresc s < s.build.clkPerUs := by
  unfold nextPresc
  split_ifs with _ ht
  · omega
  · omega
  · rw [tick_iff] at ht
    omega

theorem step_prescInRange {s u : State} (hi : s.Inv) (hu : step s = .next u) : u.prescInRange := by
  intro huw
  obtain ⟨hb, -⟩ := step_frame hu
  have hpos := hi.buildValid
  cases hr : (sampleInputs s).rst with
  | true =>
    obtain ⟨v, hv, -, -, -, -, hpresc, -⟩ := resetEdgeTakesResetValues s hr
    obtain rfl := Host.Outcome.next.inj (hv.symm.trans hu)
    rwa [hpresc, hb]
  | false =>
    have hw : s.wasReset = true := by simpa [step_wasReset hu, hr] using huw
    obtain ⟨-, hpresc⟩ := step_latches_time hw hr hu
    rw [hpresc, hb]
    exact nextPresc_lt (hi.prescInRange hw)

theorem step_prescFits {s u : State} (hi : s.Inv) (hu : step s = .next u) : u.prescFits := by
  cases huw : u.wasReset with
  | true => exact (step_prescInRange hi hu huw).trans_le (clkPerUs_le_two_pow_prescWidth u.build)
  | false =>
    have h : s.wasReset = false ∧ (sampleInputs s).rst = false := by simpa [step_wasReset hu] using huw
    obtain ⟨hw, hr⟩ := h
    rw [step_before_reset hr hw] at hu
    obtain rfl := Host.Outcome.next.inj hu
    simp [State.prescFits, Nat.mod_lt]

theorem step_wired {s u : State} (hu : step s = .next u) : u.wired := by
  intro hd
  obtain ⟨-, hw⟩ := step_frame hu
  exact step_decFrame_of_direct (hw ▸ hd) hu

/-- A remainder by a power of two is 0 where the bits below are. -/
theorem toNat_mod_two_pow_eq_zero_iff (w : Raw) (n : Nat) : w.toNat % 2 ^ n = 0 ↔ ∀ i < n, w.getLsbD i = false := by
  constructor
  · intro h i hi
    simpa [Nat.testBit_mod_two_pow, hi, BitVec.testBit_toNat] using congrArg (Nat.testBit · i) h
  · intro h
    refine Nat.zero_of_testBit_eq_false fun i => ?_
    rw [Nat.testBit_mod_two_pow, BitVec.testBit_toNat]
    by_cases hi : i < n
    · simp [h i hi]
    · simp [hi]

/-- The bits from `POS` down are 0 in Sampling, and an event keeps that: a taken bit lies above the new `POS`
(40_demodulator.md R81). -/
theorem eventStep_untakenBitsZero {dt : Nat} {s t : State}
    (hs : s.state = .sampling → s.raw.toNat % 2 ^ (s.pos.toNat + 1) = 0) (ht : eventStep dt s = .next t) :
    t.state = .sampling → t.raw.toNat % 2 ^ (t.pos.toNat + 1) = 0 := by
  obtain hd | hd | hd := symbol_cases dt
  · rw [eventStep_timing_error hd] at ht
    obtain rfl := Host.Outcome.next.inj ht
    simp
  · rw [eventStep_ss hd] at ht
    obtain rfl := Host.Outcome.next.inj ht
    simp
  · cases hst : s.state with
    | idle =>
      rw [eventStep_bit_idle hd hst] at ht
      obtain rfl := Host.Outcome.next.inj ht
      simp [hst]
    | sampling =>
      rw [eventStep_bit_sampling hd hst] at ht
      obtain rfl := Host.Outcome.next.inj ht
      by_cases hp : s.pos.toNat = 0
      · rw [positionStep_of_pos_eq_zero (s := clearStrobe s) _ hp]
        simp
      · have hlow := (toNat_mod_two_pow_eq_zero_iff _ _).mp (hs hst)
        have hlt := s.pos.isLt
        rw [positionStep_of_pos_ne_zero (s := clearStrobe s) _ hp]
        intro _
        rw [toNat_mod_two_pow_eq_zero_iff]
        intro i hi
        have hi : i < s.pos.toNat := by
          simp only [clearStrobe_pos, BitVec.toNat_ofNat] at hi
          omega
        simp [getLsbD_takeBit, hlow i (by omega), hi.ne]

theorem step_untakenBitsZero {s u : State} (hi : s.Inv) (hu : step s = .next u) : u.untakenBitsZero := by
  intro huw
  cases hr : (sampleInputs s).rst with
  | true =>
    obtain ⟨v, hv, hst, -⟩ := resetEdgeTakesResetValues s hr
    obtain rfl := Host.Outcome.next.inj (hv.symm.trans hu)
    simp [hst]
  | false =>
    have hw : s.wasReset = true := by simpa [step_wasReset hu, hr] using huw
    have hs := hi.untakenBitsZero hw
    obtain ⟨t, rfl, ⟨-, ht⟩ | ⟨-, rfl⟩⟩ := step_edge_cases hw hr hu
    · simpa using eventStep_untakenBitsZero (by simpa using hs) ht
    · simpa using hs

theorem step_strobeAfterCompletion {s u : State} (hu : step s = .next u) : u.strobeAfterCompletion := by
  intro huw hv
  have h : s.wasReset = true ∨ (sampleInputs s).rst = true := by simpa [step_wasReset hu] using huw
  obtain ⟨-, -, hrest⟩ := step_completion h hu hv
  exact hrest

/-! Quiet runs. -/

/-- Along a quiet run the registers stay out of reset and the parameters as they are. -/
theorem QuietRun.wasReset_and_build {n : Nat} {s t : State} (h : QuietRun n s t) (hw : s.wasReset = true) :
    t.wasReset = true ∧ t.build = s.build := by
  induction h with
  | refl s => exact ⟨hw, rfl⟩
  | step _ hu hr _ ih =>
    obtain ⟨hwt, hb⟩ := ih hw
    exact ⟨by simp [step_wasReset hu, hwt], (step_frame hu).1.trans hb⟩

/-- One more edge at the end of a microsecond completes it. -/
theorem succ_div_mod_of_last {n c : Nat} (hc : 0 < c) (h : n % c = c - 1) :
    (n + 1) / c = n / c + 1 ∧ (n + 1) % c = 0 := by
  have hn := Nat.div_add_mod n c
  rw [Nat.div_mod_unique hc, Nat.mul_add]
  omega

/-- One more edge within a microsecond is counted in the prescaler. -/
theorem succ_div_mod_of_not_last {n c : Nat} (hc : 0 < c) (h : n % c ≠ c - 1) :
    (n + 1) / c = n / c ∧ (n + 1) % c = n % c + 1 := by
  have hn := Nat.div_add_mod n c
  have hlt := Nat.mod_lt n hc
  rw [Nat.div_mod_unique hc]
  omega

/-- After `n` quiet edges the prescaler holds the cycles of the current microsecond and `DT` the whole ones, up to saturation
(40_demodulator.md R75). -/
theorem QuietRun.counts {n : Nat} {s t : State} (h : QuietRun n s t) (hw : s.wasReset = true) (hc : 0 < s.build.clkPerUs)
    (hdt : s.dt = 0) (hpresc : s.presc = 0) :
    t.presc = n % s.build.clkPerUs ∧ t.dt.toNat = min (n / s.build.clkPerUs) 2047 := by
  induction h with
  | refl s => simp [hdt, hpresc]
  | @step n s t u hrun hu hr hf ih =>
    obtain ⟨hp, hd⟩ := ih hw hc hdt hpresc
    obtain ⟨hwt, hb⟩ := hrun.wasReset_and_build hw
    obtain ⟨hud, hup⟩ := step_latches_time hwt hr hu
    rw [hud, hup]
    by_cases htick : tick t = true
    · obtain ⟨hnd, hnp⟩ := nextTime_of_tick hf htick
      rw [tick_iff, hp, hb] at htick
      obtain ⟨hdiv, hmod⟩ := succ_div_mod_of_last hc htick
      rw [hnd, hnp, satInc_toNat, hd, hdiv, hmod]
      omega
    · obtain ⟨hnd, hnp⟩ := nextTime_of_not_tick hf htick
      rw [tick_iff, hp, hb] at htick
      obtain ⟨hdiv, hmod⟩ := succ_div_mod_of_not_last hc htick
      rw [hnd, hnp, hd, hp, hdiv, hmod]
      exact ⟨rfl, rfl⟩

/-- A saturated `DT` stays (40_demodulator.md R75). -/
theorem QuietRun.dt_saturated {n : Nat} {s t : State} (h : QuietRun n s t) (hw : s.wasReset = true) (hdt : s.dt = 2047) :
    t.dt = 2047 := by
  induction h with
  | refl s => exact hdt
  | @step n s t u hrun hu hr hf ih =>
    obtain ⟨hwt, -⟩ := hrun.wasReset_and_build hw
    obtain ⟨hud, -⟩ := step_latches_time hwt hr hu
    simp [hud, nextDt, hf, ih hw hdt, satInc, Config.dtSat]

/-! What an instruction leaves unchanged. -/

/-- A symbol row writes registers only. -/
theorem exec_symbolRow_frame {dt : Nat} {i : Instr} {s t : State}
    (hi : i ∈ [Instr.short dt, .long dt, .lowIdle dt, .highIdle dt, .ssIdle dt, .ssSampling dt, .highSampling dt,
      .lowSampling dt]) (h : exec i s = .next t) : t.build = s.build ∧ t.wiring = s.wiring := by
  obtain ⟨ht, -⟩ := symbolRowFrame dt s t i hi h
  rw [ht]
  exact ⟨rfl, rfl⟩

/-- No instruction writes a parameter or the wiring: a symbol row writes registers, a FRAME row the decoder's wires
(10_state.md R19, 20_memory.md R41). -/
theorem exec_frame {i : Instr} {s t : State} (h : exec i s = .next t) : t.build = s.build ∧ t.wiring = s.wiring := by
  cases i with
  | short dt | long dt | lowIdle dt | highIdle dt | ssIdle dt | ssSampling dt | highSampling dt | lowSampling dt =>
    exact exec_symbolRow_frame (dt := dt) (by simp) h
  | _ =>
    obtain rfl := Host.Outcome.next.inj h
    exact ⟨rfl, rfl⟩

/-! The statements. -/

/-- Settles O28: the parameters stay, the decoder is settled, and each other clause is the lemma of its name. -/
theorem stepKeepsInvariant : Obligations.StepKeepsInvariant := by
  intro s t hi ht
  obtain ⟨hb, -⟩ := step_frame ht
  exact
    { buildValid := hb ▸ hi.buildValid
      prescFits := step_prescFits hi ht
      prescInRange := step_prescInRange hi ht
      decoderSettled := (step_out ht).trans (decoderOut_ofBits _ _).symm
      wired := step_wired ht
      untakenBitsZero := step_untakenBitsZero hi ht
      strobeAfterCompletion := step_strobeAfterCompletion ht }

/-- Settles O29: each clause is evaluated; the decoder's wires are the outputs of the frame 0x0000. -/
theorem resetMeetsInvariant : Obligations.ResetMeetsInvariant where
  buildValid := by decide
  prescFits := by decide
  prescInRange := by decide
  decoderSettled := rfl
  wired := nofun
  untakenBitsZero := nofun
  strobeAfterCompletion := nofun

/-- Settles O51: the edges without and with reset each depend on the registers' side only, and the outputs are a function of
`dec_frame` and the parameters. -/
theorem demodulatorAndDecoderAreIndependent : Obligations.DemodulatorAndDecoderAreIndependent := by
  intro s1 s2 t1 t2 hb h1 h2
  constructor
  · intro hreg hw hr hi
    cases hr1 : (sampleInputs s1).rst with
    | true => exact step_reset_registers_congr hr1 (hr ▸ hr1) h1 h2
    | false =>
      obtain ⟨hw1, hw2⟩ : s1.wasReset = true ∧ s2.wasReset = true := by simpa [hr1] using hw
      exact step_edge_registers_congr hb hreg hw1 hw2 hr1 (hr ▸ hr1) hi h1 h2
  · intro hd
    have hbuild : t1.build = t2.build := (step_frame h1).1.trans (hb.trans (step_frame h2).1.symm)
    rw [step_out h1, step_out h2, hd, hbuild]

/-- Settles O16: the edge is `unspecifyRegisters`, settled. -/
theorem onlyTheDecoderHasMeaningBeforeFirstReset : Obligations.OnlyTheDecoderHasMeaningBeforeFirstReset := by
  intro s hw hr
  have hstep := step_before_reset hr hw
  refine ⟨_, hstep, step_out hstep, fun hs => step_decFrame_of_separate hs hstep, ?_, ?_, ?_⟩
  · simp [State.registers]
  · simp
  · simp [hw]

/-- Settles O17: with `fall` 1 the clock edge is the event's row on the cleared strobe, and the timing is latched behind it. -/
theorem stepRunsTheDetectedSymbolRow : Obligations.StepRunsTheDetectedSymbolRow := by
  intro s hw hr h2 h1
  have hf : fall s = true := (fall_iff s).mpr ⟨h2, h1⟩
  obtain ⟨hdt, hpresc⟩ := nextTime_of_fall hf
  obtain ⟨t, hevent⟩ := eventStep_completes (dtNow s).toNat (sampleInputs s)
  refine ⟨t, ?_, ?_⟩
  · rw [eventStep, sampleInputs_state] at hevent
    exact hevent
  · simp [step, cycle, registerEdge, hr, hw, clockEdge, hf, hevent, latchTiming, hdt, hpresc]

/-- The registers' edge in its three cases (40_demodulator.md R73, 70_reset_and_hazards.md R180). -/
theorem registerEdge_cases {s x : State} (h : registerEdge s = .next x) :
    (s.rst = true ∧ x = resetRegisters s) ∨ (s.rst = false ∧ s.wasReset = true ∧ clockEdge s = .next x) ∨
      (s.rst = false ∧ s.wasReset = false ∧ x = unspecifyRegisters s) := by
  unfold registerEdge at h
  split_ifs at h with hr hw
  · exact .inl ⟨hr, (Host.Outcome.next.inj h).symm⟩
  · exact .inr (.inl ⟨Bool.eq_false_iff.mpr hr, hw, h⟩)
  · exact .inr (.inr ⟨Bool.eq_false_iff.mpr hr, Bool.eq_false_iff.mpr hw, (Host.Outcome.next.inj h).symm⟩)

/-- Settles O18: `x` is what the registers' edge left, and settling the decoder is running the rows of the frame on it. -/
theorem stepRunsEveryRowOfTheFrame : Obligations.StepRunsEveryRowOfTheFrame := by
  intro s u hu
  obtain ⟨x, hx, rfl⟩ := step_eq_settled hu
  obtain ⟨hout, hd, -, hw⟩ := registerEdge_frame hx
  refine ⟨x, by simpa using registerEdge_cases hx, by simp [hout], ?_, by simp [State.registers], ?_, ?_⟩
  · rw [settled_decFrame, runRows_decodeRows]
    simp [settled]
  · exact fun hs => step_decFrame_of_separate hs hu
  · exact fun hs => (step_decFrame_of_direct hs hu).trans (settled_raw x)

/-- Settles O19: with `fall` 0 the clock edge clears the strobe and latches the timing. -/
theorem quietEdgeHoldsTheDemodulator : Obligations.QuietEdgeHoldsTheDemodulator := by
  intro s hw hr hq
  have hf : fall s = false := (fall_eq_false_iff s).mpr hq
  obtain ⟨u, hu⟩ := step_completes s
  obtain ⟨t, rfl, ⟨hf', -⟩ | ⟨-, rfl⟩⟩ := step_edge_cases hw hr hu
  · simp [hf] at hf'
  · exact ⟨_, hu, by simp⟩

/-- Settles O22: the counts after `n` quiet edges, and one more for the edge that uses the time. -/
theorem measuredTimeIsWholeMicroseconds : Obligations.MeasuredTimeIsWholeMicroseconds := by
  intro n s t hw hc hdt hpresc h
  obtain ⟨hp, hd⟩ := h.counts hw hc hdt hpresc
  obtain ⟨-, hb⟩ := h.wasReset_and_build hw
  by_cases htick : tick t = true
  · rw [dtNow, if_pos htick, satInc_toNat, hd]
    rw [tick_iff, hp, hb] at htick
    rw [(succ_div_mod_of_last hc htick).1]
    omega
  · rw [dtNow, if_neg htick, hd]
    rw [tick_iff, hp, hb] at htick
    rw [(succ_div_mod_of_not_last hc htick).1]

/-- Settles O23: a saturated `DT` stays so along the run, and 2047 microseconds are `LONG` in either state. -/
theorem firstEdgeAfterResetIsLong : Obligations.FirstEdgeAfterResetIsLong := by
  intro n s t hw hdt h
  have hnow : dtNow t = 2047 := by simp [dtNow, h.dt_saturated hw hdt, satInc, Config.dtSat]
  rw [hnow]
  cases t.state <;> rfl

/-- Settles O25: a frame is offered after a completion only, and its `RAW` has the bit of the event at `POS` 0. -/
theorem offeredFrameIsTheCompletedValue : Obligations.OfferedFrameIsTheCompletedValue := by
  intro s t v h ht hv
  obtain ⟨hvalid, hraw⟩ := Option.ite_none_right_eq_some.mp hv
  have hraw : v = t.raw := (Option.some.inj hraw).symm
  obtain ⟨htake, hb, -⟩ := step_completion h ht hvalid
  refine ⟨hraw, hraw, ?_⟩
  rw [hraw, htake, takeBit, if_congr (bitSymbol_high_iff hb) rfl rfl]
  rfl

/-- Settles O26: the level captured first is in `SYNC1` two edges later and the one before it in `SYNC2`. -/
theorem detectionLatencyIsTwoCycles : Obligations.DetectionLatencyIsTwoCycles := by
  intro s t u hw ht hu hrs hrt
  have hwt : t.wasReset = true := by simp [step_wasReset ht, hw]
  obtain ⟨h0, h1, -⟩ := step_shifts_synchroniser hw hrs ht
  obtain ⟨-, h1', h2'⟩ := step_shifts_synchroniser hwt hrt hu
  rw [fall, h1', h2', h0, h1]

/-- Settles O27: by `step_completes`, with the flag's update. -/
theorem everyStepCompletes : Obligations.EveryStepCompletes := by
  intro s
  obtain ⟨u, hu⟩ := step_completes s
  exact ⟨u, hu, by simp [step_wasReset hu]⟩

/-- Settles O30: an instruction writes registers or the decoder's wires, a step those and `dec_frame`. -/
theorem parametersNeverChange : Obligations.ParametersNeverChange :=
  ⟨fun _ _ _ h => exec_frame h, fun _ _ h => step_frame h⟩

/-- Settles O31: the width and the range are clauses of the invariant, and the width covers the range. -/
theorem prescalerFitsItsWidth : Obligations.PrescalerFitsItsWidth := by
  intro s hi
  have hpos := hi.buildValid
  have hwidth := clkPerUs_le_two_pow_prescWidth s.build
  refine ⟨hi.prescFits, by omega, fun hw => ?_, fun hw hone => ?_⟩
  · have := hi.prescInRange hw
    omega
  · have := hi.prescInRange hw
    omega

/-- Settles O15: the registers of `State.reset` are read off. -/
theorem resetStateHasTableValues : Obligations.ResetStateHasTableValues :=
  ⟨rfl, rfl, rfl, rfl, rfl, rfl, rfl, rfl, rfl, rfl⟩

end Sys2Proof.Machine
end

section
/-!
PROOFS of the statements about the encodings (30_encoding.md). First which rows a frame and a time decode to, then what the encoder
writes for each of those rows, then the statements.
-/

namespace Sys2Proof.Machine

/-! Decoding what the encoder wrote. -/

/-- The word of a frame is read back (30_encoding.md R47). -/
theorem decode_frame_toBits (st : DemodState) (f : Frame) : decode st (.frame f.toBits) = decodeRows f := by
  rw [decode, Frame.ofBits_toBits]

theorem classRow_mem_decode (st : DemodState) (f : Frame) : classRow f ∈ decode st (.frame f.toBits) := by
  rw [decode_frame_toBits]
  exact List.mem_cons_self

theorem commandRow_mem_decode (st : DemodState) {f : Frame} {i : Instr} (h : i ∈ commandRows f) :
    i ∈ decode st (.frame f.toBits) := by
  rw [decode_frame_toBits]
  exact List.mem_cons_of_mem _ (List.mem_append_left _ h)

theorem functionRow_mem_decode (st : DemodState) {f : Frame} {i : Instr} (h : i ∈ functionRows f) :
    i ∈ decode st (.frame f.toBits) := by
  rw [decode_frame_toBits]
  exact List.mem_cons_of_mem _ (List.mem_append_right _ h)

/-- The red row of a standard_rc frame is chosen by the code in its red sub-field (30_encoding.md R50). -/
theorem stdRedRow_frame (h : Header) (c b : BitVec 2) :
    stdRedRow (h.frame 0 1 (stdData c b)) =
      if c = Config.stdCodeStop then .stdRedStop h b else if c = Config.stdCodeFwd then .stdRedFwd h b
      else if c = Config.stdCodeBwd then .stdRedBwd h b else .stdRedCode3 h b := by
  simp only [stdRedRow, Header.frame, Frame.header, redSub_stdData, blueSub_stdData]

/-- The blue row of a standard_rc frame is chosen by the code in its blue sub-field (30_encoding.md R50). -/
theorem stdBlueRow_frame (h : Header) (r c : BitVec 2) :
    stdBlueRow (h.frame 0 1 (stdData r c)) =
      if c = Config.stdCodeStop then .stdBlueStop h r else if c = Config.stdCodeFwd then .stdBlueFwd h r
      else if c = Config.stdCodeBwd then .stdBlueBwd h r else .stdBlueCode3 h r := by
  simp only [stdBlueRow, Header.frame, Frame.header, redSub_stdData, blueSub_stdData]

/-- A standard_rc frame decodes to the red row of its code. -/
theorem stdRedRow_mem_decode (st : DemodState) (h : Header) (c b : BitVec 2) {i : Instr}
    (hi : i = if c = Config.stdCodeStop then .stdRedStop h b else if c = Config.stdCodeFwd then .stdRedFwd h b
      else if c = Config.stdCodeBwd then .stdRedBwd h b else .stdRedCode3 h b) :
    i ∈ decode st (.frame (h.frame 0 1 (stdData c b)).toBits) := by
  rw [hi, ← stdRedRow_frame]
  exact commandRow_mem_decode st List.mem_cons_self

/-- A standard_rc frame decodes to the blue row of its code. -/
theorem stdBlueRow_mem_decode (st : DemodState) (h : Header) (r c : BitVec 2) {i : Instr}
    (hi : i = if c = Config.stdCodeStop then .stdBlueStop h r else if c = Config.stdCodeFwd then .stdBlueFwd h r
      else if c = Config.stdCodeBwd then .stdBlueBwd h r else .stdBlueCode3 h r) :
    i ∈ decode st (.frame (h.frame 0 1 (stdData r c)).toBits) := by
  rw [hi, ← stdBlueRow_frame]
  exact commandRow_mem_decode st (List.mem_cons_of_mem _ List.mem_cons_self)

theorem pwmRowM4_mem_decode (st : DemodState) (h : Header) (d : BitVec 4) :
    pwmRowM4 (h.frame 0 4 d) ∈ decode st (.frame (h.frame 0 4 d).toBits) :=
  commandRow_mem_decode st List.mem_cons_self

theorem pwmRowM5_mem_decode (st : DemodState) (h : Header) (d : BitVec 4) :
    pwmRowM5 (h.frame 0 5 d) ∈ decode st (.frame (h.frame 0 5 d).toBits) :=
  commandRow_mem_decode st List.mem_cons_self

theorem pwmRowM7_mem_decode (st : DemodState) (h : Header) (d : BitVec 4) :
    pwmRowM7 (h.frame 0 7 d) ∈ decode st (.frame (h.frame 0 7 d).toBits) :=
  commandRow_mem_decode st List.mem_cons_self

/-- A data value without a row of its own is none of the three that have one (30_encoding.md R51). -/
theorem pwmNamed_eq_false_iff (d : BitVec 4) :
    pwmNamed d = false ↔ d ≠ Config.pwmDataInc ∧ d ≠ Config.pwmDataDec ∧ d ≠ Config.pwmDataReset := by
  simp [pwmNamed, and_assoc]

/-- Such a value's row is the mode's `OTHER` row (30_encoding.md R51). -/
theorem pwmRows_of_not_named {f : Frame} (hd : pwmNamed f.data = false) :
    pwmRowM4 f = .pwmRedOtherM4 f.header f.data ∧ pwmRowM5 f = .pwmBlueOtherM5 f.header f.data ∧
      pwmRowM7 f = .pwmBlueOtherM7 f.header f.data := by
  obtain ⟨hinc, hdec, hreset⟩ := (pwmNamed_eq_false_iff f.data).mp hd
  simp only [pwmRowM4, pwmRowM5, pwmRowM7, if_neg hinc, if_neg hdec, if_neg hreset, and_self]

/-! The symbol rows. -/

/-- A well-formed symbol row is the one its time decodes to in its own state. -/
theorem decodeSym_homeState {dt : Nat} {i : Instr}
    (hi : i ∈ [Instr.short dt, .long dt, .lowIdle dt, .highIdle dt, .ssIdle dt, .ssSampling dt, .highSampling dt,
      .lowSampling dt]) (h : i.wellFormed = true) : i = decodeSym i.homeState dt := by
  simp only [List.mem_cons, List.not_mem_nil, or_false] at hi
  obtain rfl | rfl | rfl | rfl | rfl | rfl | rfl | rfl := hi <;>
    (simp only [Instr.wellFormed, beq_iff_eq] at h; simp [decodeSym, Instr.homeState, h])

/-- Only the eight symbol rows have a time as their word (30_encoding.md R45). -/
theorem mem_symbolRows_of_encode {dt : Nat} {i : Instr} (h : encode i = .sym dt) :
    i ∈ [Instr.short dt, .long dt, .lowIdle dt, .highIdle dt, .ssIdle dt, .ssSampling dt, .highSampling dt,
      .lowSampling dt] := by
  cases i with
  | short | long | lowIdle | highIdle | ssIdle | ssSampling | highSampling | lowSampling =>
    obtain rfl := CodeWord.sym.inj h
    simp
  | _ => nomatch h

/-- The row a time decodes to is well formed, has that time, and belongs to the state or to any state (40_demodulator.md R84). -/
theorem decodeSym_spec (st : DemodState) (dt : Nat) :
    (decodeSym st dt).wellFormed = true ∧ encode (decodeSym st dt) = .sym dt ∧
      ((decodeSym st dt).homeState = st ∨ decodeSym st dt = .short dt ∨ decodeSym st dt = .long dt) := by
  cases hc : classify dt <;> cases st <;> simp [decodeSym, hc, Instr.wellFormed, encode, Instr.homeState]

/-! The rows of a frame have its word. -/

/-- A row that is well formed and has this word. -/
def IsRowOf (i : Instr) (w : CodeWord) : Prop := i.wellFormed = true ∧ encode i = w

theorem classRow_isRowOf (f : Frame) : IsRowOf (classRow f) (.frame f.toBits) := by
  obtain ⟨t, e, c, a, m, d, k⟩ := f
  obtain rfl | rfl := bit_cases e
  · obtain rfl | rfl | rfl | rfl | rfl | rfl | rfl | rfl := mode_cases m <;> exact ⟨rfl, rfl⟩
  · exact ⟨rfl, rfl⟩

theorem functionRows_isRowOf {f : Frame} {i : Instr} (h : i ∈ functionRows f) : IsRowOf i (.frame f.toBits) := by
  simp only [functionRows, List.mem_cons, List.not_mem_nil, or_false] at h
  obtain rfl | rfl | rfl | rfl | rfl | rfl | rfl | rfl | rfl := h <;> exact ⟨rfl, rfl⟩

/-- The fields a command row leaves free and those it fixes make up the frame. -/
theorem header_frame_of_eq {f : Frame} {m : BitVec 3} {d : BitVec 4} (he : f.escape = 0) (hm : f.mode = m)
    (hd : d = f.data) : f.header.frame 0 m d = f := by
  subst hm hd
  rw [Header.frame, ← he]
  rfl

theorem stdData_of_subs {d : BitVec 4} {r b : BitVec 2} (hr : redSub d = r) (hb : blueSub d = b) : stdData r b = d := by
  rw [← hr, ← hb, stdData_subs]

theorem stdRedRow_isRowOf {f : Frame} (he : f.escape = 0) (hm : f.mode = 1) : IsRowOf (stdRedRow f) (.frame f.toBits) := by
  have hword {r : BitVec 2} (hr : redSub f.data = r) :
      CodeWord.frame (f.header.frame 0 1 (stdData r (blueSub f.data))).toBits = .frame f.toBits := by
    rw [header_frame_of_eq he hm (stdData_of_subs hr rfl)]
  unfold stdRedRow
  split_ifs with h0 h1 h2
  · exact ⟨rfl, hword h0⟩
  · exact ⟨rfl, hword h1⟩
  · exact ⟨rfl, hword h2⟩
  · obtain h | h | h | h := two_bit_cases (redSub f.data)
    · exact absurd h h0
    · exact absurd h h1
    · exact absurd h h2
    · exact ⟨rfl, hword h⟩

theorem stdBlueRow_isRowOf {f : Frame} (he : f.escape = 0) (hm : f.mode = 1) :
    IsRowOf (stdBlueRow f) (.frame f.toBits) := by
  have hword {b : BitVec 2} (hb : blueSub f.data = b) :
      CodeWord.frame (f.header.frame 0 1 (stdData (redSub f.data) b)).toBits = .frame f.toBits := by
    rw [header_frame_of_eq he hm (stdData_of_subs rfl hb)]
  unfold stdBlueRow
  split_ifs with h0 h1 h2
  · exact ⟨rfl, hword h0⟩
  · exact ⟨rfl, hword h1⟩
  · exact ⟨rfl, hword h2⟩
  · obtain h | h | h | h := two_bit_cases (blueSub f.data)
    · exact absurd h h0
    · exact absurd h h1
    · exact absurd h h2
    · exact ⟨rfl, hword h⟩

/-- The one command row of a pwm_rc frame, for each of its modes. -/
theorem pwmRow_isRowOf {f : Frame} (he : f.escape = 0) :
    (f.mode = 4 → IsRowOf (pwmRowM4 f) (.frame f.toBits)) ∧ (f.mode = 5 → IsRowOf (pwmRowM5 f) (.frame f.toBits)) ∧
      (f.mode = 7 → IsRowOf (pwmRowM7 f) (.frame f.toBits)) := by
  have hword {m : BitVec 3} {d : BitVec 4} (hm : f.mode = m) (hd : f.data = d) :
      CodeWord.frame (f.header.frame 0 m d).toBits = .frame f.toBits := by
    rw [header_frame_of_eq he hm hd.symm]
  have hother (hinc : f.data ≠ Config.pwmDataInc) (hdec : f.data ≠ Config.pwmDataDec)
      (hreset : f.data ≠ Config.pwmDataReset) : (!pwmNamed f.data) = true := by
    rw [(pwmNamed_eq_false_iff _).mpr ⟨hinc, hdec, hreset⟩]
    rfl
  refine ⟨fun hm => ?_, fun hm => ?_, fun hm => ?_⟩
  · unfold pwmRowM4
    split_ifs with h0 h1 h2
    exacts [⟨rfl, hword hm h0⟩, ⟨rfl, hword hm h1⟩, ⟨rfl, hword hm h2⟩, ⟨hother h0 h1 h2, hword hm rfl⟩]
  · unfold pwmRowM5
    split_ifs with h0 h1 h2
    exacts [⟨rfl, hword hm h0⟩, ⟨rfl, hword hm h1⟩, ⟨rfl, hword hm h2⟩, ⟨hother h0 h1 h2, hword hm rfl⟩]
  · unfold pwmRowM7
    split_ifs with h0 h1 h2
    exacts [⟨rfl, hword hm h0⟩, ⟨rfl, hword hm h1⟩, ⟨rfl, hword hm h2⟩, ⟨hother h0 h1 h2, hword hm rfl⟩]

theorem commandRows_isRowOf {f : Frame} {i : Instr} (h : i ∈ commandRows f) : IsRowOf i (.frame f.toBits) := by
  cases hs : isStandardRc f with
  | true =>
    obtain ⟨he, hm⟩ := (isStandardRc_iff f).mp hs
    rw [commandRows_of_standard hs, List.mem_pair] at h
    obtain rfl | rfl := h
    · exact stdRedRow_isRowOf he hm
    · exact stdBlueRow_isRowOf he hm
  | false =>
    cases hp : isPwmRc f with
    | true =>
      obtain ⟨he, -⟩ := (isPwmRc_iff f).mp hp
      obtain ⟨h4, h5, h7⟩ := pwmRow_isRowOf he
      obtain ⟨hm, hrows⟩ | ⟨hm, hrows⟩ | ⟨hm, hrows⟩ := commandRows_of_pwm hp <;> rw [hrows, List.mem_singleton] at h
      · exact h ▸ h4 hm
      · exact h ▸ h5 hm
      · exact h ▸ h7 hm
    | false => simp [commandRows_of_neither hs hp] at h

/-! The statements. -/

/-- Settles O53: a symbol row is the one of its time in its own state; a class or command row is the one its frame's fields choose;
the function rows belong to every frame. -/
theorem decodeOfEncode : Obligations.DecodeOfEncode := by
  intro i hi
  cases i with
  | short dt | long dt | lowIdle dt | highIdle dt | ssIdle dt | ssSampling dt | highSampling dt | lowSampling dt =>
    exact List.mem_singleton.mpr (decodeSym_homeState (dt := dt) (by simp) hi)
  | extendedMode h d => exact classRow_mem_decode _ (h.frame 0 0 d)
  | standardRc h d => exact classRow_mem_decode _ (h.frame 0 1 d)
  | noclassM2 h d => exact classRow_mem_decode _ (h.frame 0 2 d)
  | noclassM3 h d => exact classRow_mem_decode _ (h.frame 0 3 d)
  | noclassM6 h d => exact classRow_mem_decode _ (h.frame 0 6 d)
  | pwmRcM4 h d => exact classRow_mem_decode _ (h.frame 0 4 d)
  | pwmRcM5 h d => exact classRow_mem_decode _ (h.frame 0 5 d)
  | pwmRcM7 h d => exact classRow_mem_decode _ (h.frame 0 7 d)
  | comboPwmMode h m d => exact classRow_mem_decode _ (h.frame 1 m d)
  | stdRedStop h b | stdRedFwd h b | stdRedBwd h b | stdRedCode3 h b => exact stdRedRow_mem_decode _ h _ b rfl
  | stdBlueStop h r | stdBlueFwd h r | stdBlueBwd h r | stdBlueCode3 h r => exact stdBlueRow_mem_decode _ h r _ rfl
  | pwmRedIncM4 h | pwmRedDecM4 h | pwmRedResetM4 h => exact pwmRowM4_mem_decode _ h _
  | pwmBlueIncM5 h | pwmBlueDecM5 h | pwmBlueResetM5 h => exact pwmRowM5_mem_decode _ h _
  | pwmBlueIncM7 h | pwmBlueDecM7 h | pwmBlueResetM7 h => exact pwmRowM7_mem_decode _ h _
  | pwmRedOtherM4 h d =>
    obtain ⟨hrow, -, -⟩ := pwmRows_of_not_named (f := h.frame 0 4 d) (Bool.not_eq_true' _ ▸ hi)
    have hmem := pwmRowM4_mem_decode .idle h d
    rwa [hrow] at hmem
  | pwmBlueOtherM5 h d =>
    obtain ⟨-, hrow, -⟩ := pwmRows_of_not_named (f := h.frame 0 5 d) (Bool.not_eq_true' _ ▸ hi)
    have hmem := pwmRowM5_mem_decode .idle h d
    rwa [hrow] at hmem
  | pwmBlueOtherM7 h d =>
    obtain ⟨-, -, hrow⟩ := pwmRows_of_not_named (f := h.frame 0 7 d) (Bool.not_eq_true' _ ▸ hi)
    have hmem := pwmRowM7_mem_decode .idle h d
    rwa [hrow] at hmem
  | fields f | checksumOk f | channel f | singleOutputPort f | redCommand f | blueCommand f | stateSignature f
  | redEffected f | blueEffected f =>
    exact functionRow_mem_decode _ (by simp [functionRows])

/-- Settles O54: a time's one row by `decodeSym_spec`, a frame's rows by their group. -/
theorem encodeOfDecode : Obligations.EncodeOfDecode := by
  intro st w i hi
  cases w with
  | sym dt =>
    obtain rfl := List.mem_singleton.mp hi
    obtain ⟨hwf, henc, -⟩ := decodeSym_spec st dt
    exact ⟨hwf, henc⟩
  | frame f =>
    rw [← Frame.toBits_ofBits f]
    rw [decode, decodeRows, List.mem_cons, List.mem_append] at hi
    obtain rfl | hi | hi := hi
    · exact classRow_isRowOf _
    · exact commandRows_isRowOf hi
    · exact functionRows_isRowOf hi

/-- Settles O55: a well-formed row of this time is the one decoded in its own state, and `SHORT` and `LONG` are decoded in any. -/
theorem exactlyOneSymbolRowApplies : Obligations.ExactlyOneSymbolRowApplies := by
  intro st dt i
  constructor
  · rintro ⟨hwf, henc, rfl | rfl | rfl⟩
    · exact decodeSym_homeState (mem_symbolRows_of_encode henc) hwf
    · simp only [Instr.wellFormed, beq_iff_eq] at hwf
      simp [decodeSym, hwf]
    · simp only [Instr.wellFormed, beq_iff_eq] at hwf
      simp [decodeSym, hwf]
  · rintro rfl
    exact decodeSym_spec st dt

/-- Settles O56: each word is evaluated. -/
theorem writtenOutWordsDecode : Obligations.WrittenOutWordsDecode := by
  unfold Obligations.WrittenOutWordsDecode
  decide

end Sys2Proof.Machine
end

section
/-!
PROOFS of the statements about the environment (42_downstream_reference.md), which is no part of the block. First which frames are
accepted, what a command does to a sub-channel and which slots are due, then the dispatch of an accepted frame, then the statements.
-/

namespace Sys2Proof.Machine

/-! The parts of the dispatcher. -/

/-- Steps 1 and 2 over the word (42_downstream_reference.md R136, R137). -/
theorem accepts_iff (b : Build) (w : Raw) (c : ChannelState) :
    accepts (decoderOut b (Frame.ofBits w)) c = true ↔
      checksumRight w ∧ stateSignature (Frame.ofBits w) ≠ c.previousSignature := by
  rw [accepts, Bool.and_eq_true, bne_iff_ne, ← decide_eq_true_iff (p := checksumRight w), ← checksumOk_ofBits]
  rfl

/-- A command moves its sub-channel as the table says (42_downstream_reference.md R138). -/
theorem SubChannel.apply_movesBy (c : Command) (x : SubChannel) : SubChannel.MovesBy c x (x.apply c) where
  steps := by cases c <;> rfl
  alternativeMode := by cases c <;> rfl
  zero h := by obtain rfl | rfl := h <;> rfl
  forward h := by subst h; rfl
  backward h := by subst h; rfl
  increase h := by subst h; exact min_def _ _
  decrease h := by subst h; exact (max_comm _ _).trans (max_def _ _)
  notApplicable h := by subst h; rfl

theorem ChannelState.accept_inRange (o : DecoderOut) {c : ChannelState} (h : c.red.inRange ∧ c.blue.inRange) :
    (c.accept o).red.inRange ∧ (c.accept o).blue.inRange :=
  ⟨SubChannel.apply_inRange _ h.1, SubChannel.apply_inRange _ h.2⟩

/-- Keeping the marked entries of a list, entry by entry. -/
theorem map_fst_filter_snd {α : Type} (l : List (α × Bool)) :
    (l.filter (·.2)).map (·.1) = l.flatMap fun p => if p.2 then [p.1] else [] := by
  induction l with
  | nil => rfl
  | cons p rest ih => cases hp : p.2 <;> simp [hp, ih]

/-- The slots due, one after another in their fixed order (42_downstream_reference.md R139). -/
theorem slotsDue_eq (o : DecoderOut) (before after : ChannelState) (h : Handlers) :
    slotsDue o before after h =
      (if h.generic then [Slot.generic] else []) ++
      (if h.redEffected ∧ o.redEffected then [Slot.redEffected] else []) ++
      (if h.blueEffected ∧ o.blueEffected then [Slot.blueEffected] else []) ++
      (if h.redChanged ∧ before.red.actualStep ≠ after.red.actualStep then [Slot.redChanged] else []) ++
      (if h.blueChanged ∧ before.blue.actualStep ≠ after.blue.actualStep then [Slot.blueChanged] else []) := by
  simp [slotsDue, map_fst_filter_snd]

/-- A generic handler that marks the frame is the only one called (42_downstream_reference.md R139, R140). -/
theorem dispatchSlots_of_generic_marks {m : Marks} {w : Raw} {c : ChannelState} (hm : m .generic w c = true)
    (o : DecoderOut) (before after : ChannelState) {h : Handlers} (hg : h.generic = true) :
    dispatchSlots m w c (slotsDue o before after h) = [{ slot := .generic, frame := w, channelState := c }] := by
  simp [slotsDue, hg, dispatchSlots, hm]

/-! The dispatch of an accepted frame. -/

/-- What an accepted frame does to the environment and which slots it calls, from the channel's state and its handlers
(42_downstream_reference.md R138, R139). -/
theorem Env.dispatch_of_accepted (b : Build) (m : Marks) (w : Raw) (e : Env) {c : ChannelState}
    (hc : e.stateForChannel (slice w 13 12) = some c) (hok : checksumRight w)
    (hsig : stateSignature (Frame.ofBits w) ≠ c.previousSignature) :
    ∃ (hlt : slice w 13 12 < 4), e.dispatch b m w =
      ({ e with channels := e.channels.set (slice w 13 12) (c.accept (decoderOut b (Frame.ofBits w))) },
        dispatchSlots m w (c.accept (decoderOut b (Frame.ofBits w)))
          (slotsDue (decoderOut b (Frame.ofBits w)) c (c.accept (decoderOut b (Frame.ofBits w)))
            e.handlers[slice w 13 12])) := by
  obtain ⟨hlt, hch⟩ := Vector.getElem?_eq_some_iff.mp hc
  exact ⟨hlt, Env.dispatch_accepted b m w e hlt hch rfl ((accepts_iff b w c).mpr ⟨hok, hsig⟩)⟩

/-- Storing a channel's state is seen there only. -/
theorem Env.stateForChannel_set (e : Env) {i : Nat} (hi : i < 4) (c : ChannelState) (k : Nat) :
    ({ e with channels := e.channels.set i c } : Env).stateForChannel k = if k = i then some c else e.stateForChannel k := by
  simp only [Env.stateForChannel, Vector.getElem?_set, eq_comm (a := i)]

/-- Storing a state in range keeps the others so (42_downstream_reference.md R134). -/
theorem Env.inRange_set {e : Env} (h : e.inRange) {i : Nat} (hi : i < 4) {c : ChannelState}
    (hc : c.red.inRange ∧ c.blue.inRange) : ({ e with channels := e.channels.set i c } : Env).inRange := by
  intro x hx
  rw [Vector.toList_set] at hx
  obtain hx | rfl := List.mem_or_eq_of_mem_set hx
  · exact h x hx
  · exact hc

/-- One frame keeps the positions in range: it changes nothing, or moves one channel by two commands. -/
theorem Env.dispatch_inRange (b : Build) (m : Marks) (w : Raw) {e : Env} (h : e.inRange) : (e.dispatch b m w).1.inRange := by
  have hlt : slice w 13 12 < 4 := Nat.mod_lt _ (by decide)
  have hc : e.channels[slice w 13 12] ∈ e.channels.toList := by simp
  cases ha : accepts (decoderOut b (Frame.ofBits w)) e.channels[slice w 13 12] with
  | true =>
    rw [Env.dispatch_accepted b m w e hlt rfl rfl ha]
    exact Env.inRange_set h hlt (ChannelState.accept_inRange _ (h _ hc))
  | false =>
    rw [Env.dispatch_discarded b m w e (Vector.getElem?_eq_getElem hlt) ha]
    exact h

/-! Configuration. -/

/-- The arguments `set_steps` admits (42_downstream_reference.md R141). -/
def StepsArgumentsInRange (ch r b : Nat) : Prop := ch < 4 ∧ 1 ≤ r ∧ r ≤ 127 ∧ 1 ≤ b ∧ b ≤ 127

theorem stepsAdmitted_and_iff (r b : Nat) :
    (stepsAdmitted r && stepsAdmitted b) = true ↔ 1 ≤ r ∧ r ≤ 127 ∧ 1 ≤ b ∧ b ≤ 127 := by
  simp [stepsAdmitted, and_assoc]

theorem Env.setSteps_of_not_inRange (e : Env) {ch r b : Nat} (h : ¬ StepsArgumentsInRange ch r b) :
    e.setSteps ch r b = none := by
  unfold Env.setSteps
  split_ifs with hch hsteps
  · exact absurd ⟨hch, (stepsAdmitted_and_iff r b).mp hsteps⟩ h
  · rfl
  · rfl

/-- Inside the ranges the channel's two step values are stored (42_downstream_reference.md R141). -/
theorem Env.setSteps_of_inRange (e : Env) {ch r b : Nat} (h : StepsArgumentsInRange ch r b) :
    e.setSteps ch r b = some { e with
      channels := e.channels.set ch
        { e.channels[ch]'h.1 with
          red := { (e.channels[ch]'h.1).red with steps := r }, blue := { (e.channels[ch]'h.1).blue with steps := b } }
        h.1 } := by
  obtain ⟨hch, hsteps⟩ := h
  rw [Env.setSteps, dif_pos hch, if_pos ((stepsAdmitted_and_iff r b).mpr hsteps)]

/-! The statements. -/

/-- Settles O57: the two steps decide; what an accepted frame does is one channel's `accept`. -/
theorem invalidOrRepeatedFrameIsDiscarded : Obligations.InvalidOrRepeatedFrameIsDiscarded := by
  intro b m w e c hc
  refine ⟨fun hbad => ?_, fun hok hsig => ?_⟩
  · refine Env.dispatch_discarded b m w e hc (Bool.eq_false_iff.mpr fun ha => ?_)
    obtain ⟨hok, hsig⟩ := (accepts_iff b w c).mp ha
    exact hbad.elim (· hok) hsig
  · obtain ⟨hlt, hd⟩ := Env.dispatch_of_accepted b m w e hc hok hsig
    rw [hd]
    refine ⟨⟨_, (Env.stateForChannel_set e hlt _ _).trans (if_pos rfl), rfl, SubChannel.apply_movesBy _ _,
      SubChannel.apply_movesBy _ _⟩, fun k hk => ?_, rfl, rfl, rfl⟩
    rw [Env.stateForChannel_set e hlt, if_neg hk]

/-- Settles O58: by induction on the backlog, each frame keeping the range. -/
theorem dispatchKeepsPositionsInRange : Obligations.DispatchKeepsPositionsInRange := by
  intro b m ws
  induction ws generalizing m with
  | nil => exact fun _ h => h
  | cons w rest ih => exact fun e h => ih (fun k => m (k + 1)) _ (Env.dispatch_inRange b (m 0) w h)

/-- Settles O59: the channel's state afterwards is the accepted one, and the calls are `dispatchSlots` of the slots due. -/
theorem handledFrameStopsTheSequence : Obligations.HandledFrameStopsTheSequence := by
  intro b m w e c c' h hc hh hok hsig hc'
  obtain ⟨hlt, hd⟩ := Env.dispatch_of_accepted b m w e hc hok hsig
  obtain ⟨_, hhandlers⟩ := Vector.getElem?_eq_some_iff.mp hh
  rw [hd, Env.stateForChannel_set e hlt, if_pos rfl] at hc'
  obtain rfl := Option.some.inj hc'
  rw [hd, hhandlers]
  refine ⟨fun hg hm => dispatchSlots_of_generic_marks hm _ _ _ hg, fun hm => ?_, dispatchSlots_arguments m w _ _⟩
  rw [dispatchSlots_unmarked m w _ hm, slotsDue_eq]
  rfl

/-- Settles O60: the two tests are the ranges, and inside them one channel's state is stored. -/
theorem setStepsValidatesItsArguments : Obligations.SetStepsValidatesItsArguments := by
  intro e ch r b
  by_cases h : StepsArgumentsInRange ch r b
  · rw [Env.setSteps_of_inRange e h]
    refine ⟨iff_of_false nofun (not_not_intro h), fun e' he' => ?_⟩
    obtain rfl := Option.some.inj he'
    refine ⟨rfl, rfl, rfl, fun k hk => ?_, fun c hc => ?_⟩
    · rw [Env.stateForChannel_set e h.1, if_neg hk]
    · obtain ⟨_, rfl⟩ := Vector.getElem?_eq_some_iff.mp hc
      rw [Env.stateForChannel_set e h.1, if_pos rfl]
  · rw [Env.setSteps_of_not_inRange e h]
    exact ⟨iff_of_true rfl h, nofun⟩

end Sys2Proof.Machine
end
